-- ==== Sys2Proof/Word.lean ====
section
/-! DEFINITION. The word types of the block: binary32 words, command words and their fields (R10, R15, R101). -/

namespace Sys2Proof

/-- A 32-bit word read as an IEEE 754 binary32 value (R15). -/
abbrev F32 := BitVec 32

/-- One command word (R100). -/
abbrev CommandWord := BitVec 64

end Sys2Proof
end

