-- ==== Sys2Proof/Config.lean ====
section
/-! DEFINITION. The parameters of R8 and R55 as one plain record, and the free values of the model.
The default contents are in Sys2Proof/Machine/Defaults.lean. -/

namespace Sys2Proof

/-- The five coefficients of the filter section, with a0 = 1 (R252). -/
structure BiquadCoeffs where
  b0 : F32
  b1 : F32
  b2 : F32
  a1 : F32
  a2 : F32
deriving DecidableEq, Repr

/-- The parameter EXP2 (R24): the default, or any function of f32 words, written as its finite table. -/
inductive Exp2Param where
  /-- The default of R24: the correctly rounded power of two. -/
  | correctlyRounded
  /-- A substitute: the first entry for the argument, else the second component. -/
  | table (entries : List (F32 × F32)) (otherwise : F32)
deriving DecidableEq, Repr

/-- The parameter BIQUAD_COEFFS (R252): the default, or any function of (fc, resonance) words, written
as its finite table. -/
inductive BiquadParam where
  /-- The default of R253: the second-order low-pass. -/
  | rbjLowPass
  /-- A substitute: the first entry for the arguments, else the second component. -/
  | table (entries : List ((F32 × F32) × BiquadCoeffs)) (otherwise : BiquadCoeffs)
deriving DecidableEq, Repr

/-- The parameter NOISE_SEED_RESET (R8): the default, or any function of (voice, unit code). -/
inductive SeedParam where
  /-- The default of R8: `(v << 8) OR (u + 1)`. -/
  | voiceAndUnit
  /-- A substitute: the first entry for the arguments, else the second component. -/
  | table (entries : List ((Nat × Nat) × BitVec 32)) (otherwise : BitVec 32)
deriving DecidableEq, Repr

/-- The parameters of R8 that are not instance counts (the counts are the lengths of State's lists: log
entry 6). No command changes them (R55; log entry 5). The two tables are the ROMs of R30 and R75. -/
structure Params where
  sampleRate : Nat
  seed : SeedParam
  exp2 : Exp2Param
  noteTable : List F32
  sineTable : List F32
  biquad : BiquadParam
  fcMin : F32
  fcMax : F32
deriving DecidableEq, Repr

/-- FREE VALUE (log entry 9): what an exact expression reads for a word that has no value among the
rationals, a NaN or an infinity (R16). No reachable state reads it (R23). -/
opaque Config.valueOfNonFinite : F32 → Rat

/-- FREE VALUE (log entry 10): a ROM read outside the ROM, which cannot occur with legal tables (R76). -/
opaque Config.romOutside : Nat → F32

end Sys2Proof
end

