-- ==== Sys2Proof/Machine/Numerics.lean ====
section
/-! DEFINITION. Exact values of binary32 words and the one rounding function (R16 to R22). Expressions are
evaluated over the rationals and rounded once, where a rule writes `rnd32` (R18). -/

namespace Sys2Proof.Machine

/-- The sign bit (R15). -/
def f32Sign (w : F32) : Bool := w.msb

/-- The biased exponent field, bits 30:23 (R15). -/
def f32Exponent (w : F32) : Nat := (w.extractLsb' 23 8).toNat

/-- The fraction field, bits 22:0 (R15). -/
def f32Fraction (w : F32) : Nat := (w.extractLsb' 0 23).toNat

/-- Neither an infinity nor a NaN (R16). -/
def f32Finite (w : F32) : Bool := f32Exponent w != 255

/-- +0.0, +1.0, -1.0 and the other constants of R21. -/
def plusZero : F32 := 0x00000000#32
def plusOne : F32 := 0x3F800000#32
def minusOne : F32 := 0xBF800000#32
def hz440 : F32 := 0x43DC0000#32
def hz20000 : F32 := 0x469C4000#32
def hz20 : F32 := 0x41A00000#32
def hz21600 : F32 := 0x46A8C000#32

/-- +∞ (R17). -/
def plusInf : F32 := 0x7F800000#32

/-- -∞ (R17). -/
def minusInf : F32 := 0xFF800000#32

/-- The significand as an integer: the fraction, with the hidden bit unless the exponent field is 0 (R16). -/
def f32Significand (w : F32) : Nat :=
  if f32Exponent w = 0 then f32Fraction w else 2 ^ 23 + f32Fraction w

/-- The magnitude of a finite word: significand × 2^(e - 150), where exponent field 0 counts as 1 (R16). -/
def f32Magnitude (w : F32) : Rat :=
  (((f32Significand w * 2 ^ (max (f32Exponent w) 1) : Nat) : Rat)) / ((2 ^ 150 : Nat) : Rat)

/-- `val(w)` (R16). A word with no finite value reads as a free value (log entry 9). -/
def val (w : F32) : Rat :=
  if f32Finite w then (if f32Sign w then - f32Magnitude w else f32Magnitude w)
  else Config.valueOfNonFinite w

/-- The value of a word among the extended rationals, or none for a NaN (R16). -/
inductive F32Value where
  | nan
  | negInf
  | finite (q : Rat)
  | posInf
deriving DecidableEq, Repr

/-- The extended value of a word (R16). -/
def f32Value (w : F32) : F32Value :=
  if f32Finite w then .finite (val w)
  else if f32Fraction w != 0 then .nan
  else if f32Sign w then .negInf
  else .posInf

/-- The order of values; a comparison with a NaN is false (R16). -/
def valueLt : F32Value → F32Value → Bool
  | .nan, _ => false
  | _, .nan => false
  | .finite a, .finite b => decide (a < b)
  | .finite _, .posInf => true
  | .finite _, .negInf => false
  | .negInf, .negInf => false
  | .negInf, _ => true
  | .posInf, _ => false

/-- `a < b` on words compares their values (R16). -/
def f32Lt (a b : F32) : Bool := valueLt (f32Value a) (f32Value b)

/-- The nearest integer to a / d, halves to the even one (R17). -/
def roundHalfEven (a d : Nat) : Nat :=
  let n := a / d
  let r := a % d
  if 2 * r < d then n
  else if d < 2 * r then n + 1
  else n + n % 2

/-- The bits below the sign of the word nearest to the positive rational a / d. The quantum is 2^(k - 149)
with k = 0 for the subnormals and the lowest binade; then exponent and fraction are `k × 2^23 + n`, where n
is the magnitude in quanta, also when n rounds up to 2^24. What reaches 2^128 is an infinity (R17). -/
def roundMagnitude (a d : Nat) : Nat :=
  let k := Nat.log2 (a * 2 ^ 149 / d) - 23
  let n := roundHalfEven (a * 2 ^ 149) (d * 2 ^ k)
  min (k * 2 ^ 23 + n) 0x7F800000

/-- `rnd32(q)`: round to nearest, ties to even; a nonzero q keeps its sign (R17). -/
def rnd32 (q : Rat) : F32 :=
  BitVec.ofNat 32 (roundMagnitude q.num.natAbs q.den + (if q.num < 0 then 2 ^ 31 else 0))

/-- `round_half_away(q)` for q ≥ 0 (R19). -/
def roundHalfAway (q : Rat) : Nat := (q + 1 / 2).floor.toNat

/-- `clamp` on integers (R20). -/
def clampNat (x lo hi : Nat) : Nat := if x < lo then lo else if hi < x then hi else x

/-- `clamp` on words: compares values and returns one of the three words unchanged (R20). -/
def clampF32 (x lo hi : F32) : F32 := if f32Lt x lo then lo else if f32Lt hi x then hi else x

/-- The largest u32, 2^32 - 1. -/
def maxU32 : Nat := 2 ^ 32 - 1

/-- 2^k for an integer k. -/
def pow2 (k : Int) : Rat :=
  if 0 ≤ k then ((2 ^ k.toNat : Nat) : Rat) else 1 / ((2 ^ (-k).toNat : Nat) : Rat)

end Sys2Proof.Machine
end

