-- ==== Sys2Proof/Syntax.lean ====
section
/-! DEFINITION. The syntax of commands: ports, units, operand formats, and one constructor of Instr per
row of spec/opcode_table.json (R31, R101, R104, R110). -/

namespace Sys2Proof

/-- The two command ports (R70). -/
inductive Port where
  | aport
  | cport
deriving DecidableEq, Repr

/-- The five oscillators of a voice (R30). -/
inductive OscId where
  | vco1
  | vco2
  | lfoVco
  | lfoVcf
  | lfoVca
deriving DecidableEq, Repr

/-- The two envelope generators of a voice (R30). -/
inductive EgId where
  | vcf
  | vca
deriving DecidableEq, Repr

/-- The units a UNIT field can name (R31). -/
inductive UnitId where
  | osc (o : OscId)
  | eg (e : EgId)
  | vcf
  | vca
  | mix
  | voice
  | dec
deriving DecidableEq, Repr

/-- The operand formats of R104. -/
inductive OperandFormat where
  | none
  | f32
  | u32
  | s32
  | wave
  | keyvel
  | byte
  | regidx
deriving DecidableEq, Repr

/-- The fields of a command word beside OPC (R101). -/
structure CommandFields where
  inst : BitVec 8
  unit : BitVec 4
  rsv : BitVec 12
  operand : BitVec 32
deriving DecidableEq, Repr

/-- The 37 commands of R110. A constructor keeps every field of the word, because which fields are legal
is for the check order of R333 to say, not for the opcode (R114). -/
inductive Instr where
  | nop (c : CommandFields)
  | oscSetWaveform (c : CommandFields)
  | oscSetFrequency (c : CommandFields)
  | oscSetMidiNote (c : CommandFields)
  | oscSetDetune (c : CommandFields)
  | oscSetOctave (c : CommandFields)
  | oscSetModDepth (c : CommandFields)
  | oscSetSeed (c : CommandFields)
  | oscAdvance (c : CommandFields)
  | oscRead (c : CommandFields)
  | egSetAttack (c : CommandFields)
  | egSetDecay (c : CommandFields)
  | egSetSustain (c : CommandFields)
  | egSetRelease (c : CommandFields)
  | egNoteOn (c : CommandFields)
  | egNoteOff (c : CommandFields)
  | egAdvance (c : CommandFields)
  | egRead (c : CommandFields)
  | vcfSetCutoff (c : CommandFields)
  | vcfSetResonance (c : CommandFields)
  | vcfSetModVolume (c : CommandFields)
  | vcfAdvance (c : CommandFields)
  | vcfRead (c : CommandFields)
  | vcaSetModVolume (c : CommandFields)
  | vcaAdvance (c : CommandFields)
  | vcaRead (c : CommandFields)
  | mixAdvance (c : CommandFields)
  | mixRead (c : CommandFields)
  | voiceNoteOn (c : CommandFields)
  | voiceNoteOff (c : CommandFields)
  | voiceAdvance (c : CommandFields)
  | voiceRead (c : CommandFields)
  | voiceState (c : CommandFields)
  | voiceKey (c : CommandFields)
  | readReg (c : CommandFields)
  | decByte (c : CommandFields)
  | decClearCounters (c : CommandFields)
deriving DecidableEq, Repr

end Sys2Proof
end

