-- ==== Sys2Proof/Machine/Units.lean ====
section
/-! DEFINITION. The unit instances of a voice and the serial decoder, as plain records (R30 to R51). -/

namespace Sys2Proof.Machine

/-- The seven waveforms that WAVE can hold (R36); code 7 is never stored. -/
inductive Waveform where
  | sine
  | square
  | sawtooth
  | triangle
  | pulse8
  | pulse4
  | noise
deriving DecidableEq, Repr

/-- An oscillator instance (R35). -/
structure Osc where
  wave : Waveform
  base : F32
  eff : F32
  detune : F32
  octave : BitVec 32
  depth : F32
  phase : BitVec 32
  out : F32
  noise : BitVec 32
deriving DecidableEq, Repr

/-- The envelope states (R42, R221). -/
inductive EgState where
  | idle
  | attack
  | decay
  | sustain
  | release
deriving DecidableEq, Repr

/-- An envelope generator instance (R42). -/
structure Eg where
  state : EgState
  level : F32
  attack : F32
  decay : F32
  sustain : F32
  release : F32
  peak : F32
  segStart : F32
  segCount : BitVec 32
deriving DecidableEq, Repr

/-- The filter instance (R44). -/
structure Vcf where
  cutoff : F32
  resonance : F32
  modvol : F32
  x1 : F32
  x2 : F32
  y1 : F32
  y2 : F32
  out : F32
deriving DecidableEq, Repr

/-- The amplifier instance (R45). -/
structure Vca where
  modvol : F32
  out : F32
deriving DecidableEq, Repr

/-- The mixer instance (R46). -/
structure Mix where
  out : F32
deriving DecidableEq, Repr

/-- A voice: its eleven unit instances (R30). `key` is the one field of the VOICE record (R47). -/
structure Voice where
  vco1 : Osc
  vco2 : Osc
  lfoVco : Osc
  lfoVcf : Osc
  lfoVca : Osc
  egVcf : Eg
  egVca : Eg
  vcf : Vcf
  vca : Vca
  mix : Mix
  key : BitVec 8
deriving DecidableEq, Repr

/-- The decoder states (R50). -/
inductive DecState where
  | start
  | readAddress
  | readValue1
  | readValue2
  | readStop
deriving DecidableEq, Repr

/-- A decoded (address, value) event (R51). -/
structure DecEvent where
  address : BitVec 7
  value : BitVec 14
deriving DecidableEq, Repr

/-- A serial decoder instance with its event output, oldest event first (R50, R51). -/
structure Decoder where
  state : DecState
  address : BitVec 7
  value : BitVec 14
  frameErr : BitVec 32
  parityErr : BitVec 32
  events : List DecEvent
deriving DecidableEq, Repr

/-- The status codes of R332. -/
inductive Status where
  | ok
  | illegalOpcode
  | illegalUnit
  | wrongPort
  | badInstance
  | reservedBits
  | contractViolation
deriving DecidableEq, Repr

/-- The response of a command (R103). -/
structure Response where
  status : Status
  data : BitVec 32
deriving DecidableEq, Repr

/-- What the host can do to the block (R382). -/
inductive HostInput where
  /-- One command word on one port. -/
  | command (port : Port) (word : CommandWord)
  /-- The reset event of R360. -/
  | reset
deriving DecidableEq, Repr

end Sys2Proof.Machine
end

