-- ==== Sys2Proof/Machine/Flags.lean ====
section
/-! DEFINITION. The block has no flags (R32). What a command reports is its STATUS: this file holds the status
codes (R332), the operand range checks behind CONTRACT_VIOLATION (R105, R331), and the numeric codes of the
enumerated fields. -/

namespace Sys2Proof.Machine

/-- The 8-bit STATUS code (R332). -/
def statusCode : Status → BitVec 8
  | .ok => 0#8
  | .illegalOpcode => 1#8
  | .illegalUnit => 2#8
  | .wrongPort => 3#8
  | .badInstance => 4#8
  | .reservedBits => 5#8
  | .contractViolation => 6#8

/-- The word is finite and its value lies in [lo, hi]; false for a NaN and for an infinity (R105, R331). -/
def f32Within (w : F32) (lo hi : Rat) : Bool :=
  f32Finite w && decide (lo ≤ val w) && decide (val w ≤ hi)

/-- Finite with a value above 0: OSC_SET_FREQUENCY, VCF_SET_CUTOFF (R331). -/
def f32FinitePositive (w : F32) : Bool := f32Finite w && decide (0 < val w)

/-- Finite with a value of at least 0: the envelope times (R331). -/
def f32FiniteNonneg (w : F32) : Bool := f32Finite w && decide (0 ≤ val w)

/-- The waveform a code selects; 7 is unrecognised (R36, R141). -/
def waveformOfCode (code : BitVec 3) : Option Waveform :=
  match code with
  | 0#3 => some .sine
  | 1#3 => some .square
  | 2#3 => some .sawtooth
  | 3#3 => some .triangle
  | 4#3 => some .pulse8
  | 5#3 => some .pulse4
  | 6#3 => some .noise
  | _ => none

/-- WAVE as stored, zero-extended (R36, R322). -/
def waveformCode : Waveform → BitVec 32
  | .sine => 0#32
  | .square => 1#32
  | .sawtooth => 2#32
  | .triangle => 3#32
  | .pulse8 => 4#32
  | .pulse4 => 5#32
  | .noise => 6#32

/-- An envelope's STATE as read by READ_REG (R221, R322). -/
def egStateCode : EgState → BitVec 32
  | .idle => 0#32
  | .attack => 1#32
  | .decay => 2#32
  | .sustain => 3#32
  | .release => 4#32

/-- A decoder's STATE as read by READ_REG (R50, R322). -/
def decStateCode : DecState → BitVec 32
  | .start => 0#32
  | .readAddress => 1#32
  | .readValue1 => 2#32
  | .readValue2 => 3#32
  | .readStop => 4#32

end Sys2Proof.Machine
end

