-- ==== Sys2Proof/Machine/Roms.lean ====
section
/-! DEFINITION. The default contents of the two ROMs (R87, R91). -/

namespace Sys2Proof.Machine

/-- SINE ROM of R87, entries 0 to 59. -/
def sineRom0 : List F32 :=
  [0x00000000, 0x3C8EF859, 0x3D0EF2C6, 0x3D565E3A, 0x3D8EDC7B, 0x3DB27EB6,
   0x3DD61305, 0x3DF996A2, 0x3E0E8365, 0x3E20305B, 0x3E31D0D4, 0x3E43636F,
   0x3E54E6CD, 0x3E665992, 0x3E77BA60, 0x3E8483EE, 0x3E8D2057, 0x3E95B1BE,
   0x3E9E377A, 0x3EA6B0DF, 0x3EAF1D44, 0x3EB77C01, 0x3EBFCC6F, 0x3EC80DE9,
   0x3ED03FC9, 0x3ED8616C, 0x3EE0722F, 0x3EE87171, 0x3EF05E94, 0x3EF838F7,
   0x3F000000, 0x3F03D989, 0x3F07A8CA, 0x3F0B6D77, 0x3F0F2744, 0x3F12D5E8,
   0x3F167918, 0x3F1A108D, 0x3F1D9BFE, 0x3F211B24, 0x3F248DBB, 0x3F27F37C,
   0x3F2B4C25, 0x3F2E9772, 0x3F31D522, 0x3F3504F3, 0x3F3826A7, 0x3F3B39FF,
   0x3F3E3EBD, 0x3F4134A6, 0x3F441B7D, 0x3F46F30A, 0x3F49BB13, 0x3F4C7360,
   0x3F4F1BBD, 0x3F51B3F3, 0x3F543BCE, 0x3F56B31D, 0x3F5919AE, 0x3F5B6F51]

/-- SINE ROM of R87, entries 60 to 119. -/
def sineRom60 : List F32 :=
  [0x3F5DB3D7, 0x3F5FE714, 0x3F6208DA, 0x3F641901, 0x3F66175E, 0x3F6803CA,
   0x3F69DE1D, 0x3F6BA635, 0x3F6D5BEC, 0x3F6EFF20, 0x3F708FB2, 0x3F720D81,
   0x3F737871, 0x3F74D063, 0x3F76153F, 0x3F7746EA, 0x3F78654D, 0x3F797051,
   0x3F7A67E2, 0x3F7B4BEB, 0x3F7C1C5C, 0x3F7CD925, 0x3F7D8235, 0x3F7E1781,
   0x3F7E98FD, 0x3F7F069E, 0x3F7F605C, 0x3F7FA62F, 0x3F7FD814, 0x3F7FF605,
   0x3F800000, 0x3F7FF605, 0x3F7FD814, 0x3F7FA62F, 0x3F7F605C, 0x3F7F069E,
   0x3F7E98FD, 0x3F7E1781, 0x3F7D8235, 0x3F7CD925, 0x3F7C1C5C, 0x3F7B4BEB,
   0x3F7A67E2, 0x3F797051, 0x3F78654D, 0x3F7746EA, 0x3F76153F, 0x3F74D063,
   0x3F737871, 0x3F720D81, 0x3F708FB2, 0x3F6EFF20, 0x3F6D5BEC, 0x3F6BA635,
   0x3F69DE1D, 0x3F6803CA, 0x3F66175E, 0x3F641901, 0x3F6208DA, 0x3F5FE714]

/-- SINE ROM of R87, entries 120 to 179. -/
def sineRom120 : List F32 :=
  [0x3F5DB3D7, 0x3F5B6F51, 0x3F5919AE, 0x3F56B31D, 0x3F543BCE, 0x3F51B3F3,
   0x3F4F1BBD, 0x3F4C7360, 0x3F49BB13, 0x3F46F30A, 0x3F441B7D, 0x3F4134A6,
   0x3F3E3EBD, 0x3F3B39FF, 0x3F3826A7, 0x3F3504F3, 0x3F31D522, 0x3F2E9772,
   0x3F2B4C25, 0x3F27F37C, 0x3F248DBB, 0x3F211B24, 0x3F1D9BFE, 0x3F1A108D,
   0x3F167918, 0x3F12D5E8, 0x3F0F2744, 0x3F0B6D77, 0x3F07A8CA, 0x3F03D989,
   0x3F000000, 0x3EF838F7, 0x3EF05E94, 0x3EE87171, 0x3EE0722F, 0x3ED8616C,
   0x3ED03FC9, 0x3EC80DE9, 0x3EBFCC6F, 0x3EB77C01, 0x3EAF1D44, 0x3EA6B0DF,
   0x3E9E377A, 0x3E95B1BE, 0x3E8D2057, 0x3E8483EE, 0x3E77BA60, 0x3E665992,
   0x3E54E6CD, 0x3E43636F, 0x3E31D0D4, 0x3E20305B, 0x3E0E8365, 0x3DF996A2,
   0x3DD61305, 0x3DB27EB6, 0x3D8EDC7B, 0x3D565E3A, 0x3D0EF2C6, 0x3C8EF859]

/-- SINE ROM of R87, entries 180 to 239. -/
def sineRom180 : List F32 :=
  [0x00000000, 0xBC8EF859, 0xBD0EF2C6, 0xBD565E3A, 0xBD8EDC7B, 0xBDB27EB6,
   0xBDD61305, 0xBDF996A2, 0xBE0E8365, 0xBE20305B, 0xBE31D0D4, 0xBE43636F,
   0xBE54E6CD, 0xBE665992, 0xBE77BA60, 0xBE8483EE, 0xBE8D2057, 0xBE95B1BE,
   0xBE9E377A, 0xBEA6B0DF, 0xBEAF1D44, 0xBEB77C01, 0xBEBFCC6F, 0xBEC80DE9,
   0xBED03FC9, 0xBED8616C, 0xBEE0722F, 0xBEE87171, 0xBEF05E94, 0xBEF838F7,
   0xBF000000, 0xBF03D989, 0xBF07A8CA, 0xBF0B6D77, 0xBF0F2744, 0xBF12D5E8,
   0xBF167918, 0xBF1A108D, 0xBF1D9BFE, 0xBF211B24, 0xBF248DBB, 0xBF27F37C,
   0xBF2B4C25, 0xBF2E9772, 0xBF31D522, 0xBF3504F3, 0xBF3826A7, 0xBF3B39FF,
   0xBF3E3EBD, 0xBF4134A6, 0xBF441B7D, 0xBF46F30A, 0xBF49BB13, 0xBF4C7360,
   0xBF4F1BBD, 0xBF51B3F3, 0xBF543BCE, 0xBF56B31D, 0xBF5919AE, 0xBF5B6F51]

/-- SINE ROM of R87, entries 240 to 299. -/
def sineRom240 : List F32 :=
  [0xBF5DB3D7, 0xBF5FE714, 0xBF6208DA, 0xBF641901, 0xBF66175E, 0xBF6803CA,
   0xBF69DE1D, 0xBF6BA635, 0xBF6D5BEC, 0xBF6EFF20, 0xBF708FB2, 0xBF720D81,
   0xBF737871, 0xBF74D063, 0xBF76153F, 0xBF7746EA, 0xBF78654D, 0xBF797051,
   0xBF7A67E2, 0xBF7B4BEB, 0xBF7C1C5C, 0xBF7CD925, 0xBF7D8235, 0xBF7E1781,
   0xBF7E98FD, 0xBF7F069E, 0xBF7F605C, 0xBF7FA62F, 0xBF7FD814, 0xBF7FF605,
   0xBF800000, 0xBF7FF605, 0xBF7FD814, 0xBF7FA62F, 0xBF7F605C, 0xBF7F069E,
   0xBF7E98FD, 0xBF7E1781, 0xBF7D8235, 0xBF7CD925, 0xBF7C1C5C, 0xBF7B4BEB,
   0xBF7A67E2, 0xBF797051, 0xBF78654D, 0xBF7746EA, 0xBF76153F, 0xBF74D063,
   0xBF737871, 0xBF720D81, 0xBF708FB2, 0xBF6EFF20, 0xBF6D5BEC, 0xBF6BA635,
   0xBF69DE1D, 0xBF6803CA, 0xBF66175E, 0xBF641901, 0xBF6208DA, 0xBF5FE714]

/-- SINE ROM of R87, entries 300 to 359. -/
def sineRom300 : List F32 :=
  [0xBF5DB3D7, 0xBF5B6F51, 0xBF5919AE, 0xBF56B31D, 0xBF543BCE, 0xBF51B3F3,
   0xBF4F1BBD, 0xBF4C7360, 0xBF49BB13, 0xBF46F30A, 0xBF441B7D, 0xBF4134A6,
   0xBF3E3EBD, 0xBF3B39FF, 0xBF3826A7, 0xBF3504F3, 0xBF31D522, 0xBF2E9772,
   0xBF2B4C25, 0xBF27F37C, 0xBF248DBB, 0xBF211B24, 0xBF1D9BFE, 0xBF1A108D,
   0xBF167918, 0xBF12D5E8, 0xBF0F2744, 0xBF0B6D77, 0xBF07A8CA, 0xBF03D989,
   0xBF000000, 0xBEF838F7, 0xBEF05E94, 0xBEE87171, 0xBEE0722F, 0xBED8616C,
   0xBED03FC9, 0xBEC80DE9, 0xBEBFCC6F, 0xBEB77C01, 0xBEAF1D44, 0xBEA6B0DF,
   0xBE9E377A, 0xBE95B1BE, 0xBE8D2057, 0xBE8483EE, 0xBE77BA60, 0xBE665992,
   0xBE54E6CD, 0xBE43636F, 0xBE31D0D4, 0xBE20305B, 0xBE0E8365, 0xBDF996A2,
   0xBDD61305, 0xBDB27EB6, 0xBD8EDC7B, 0xBD565E3A, 0xBD0EF2C6, 0xBC8EF859]

/-- NOTE ROM of R91, entries 0 to 53. -/
def noteRom0 : List F32 :=
  [0x4102D013, 0x410A9760, 0x4112D517, 0x411B9041, 0x4124D054, 0x412E9D37,
   0x4138FF49, 0x4143FF6A, 0x414FA700, 0x415C0000, 0x416914F6, 0x4176F110,
   0x4182D013, 0x418A9760, 0x4192D517, 0x419B9041, 0x41A4D054, 0x41AE9D37,
   0x41B8FF49, 0x41C3FF6A, 0x41CFA700, 0x41DC0000, 0x41E914F6, 0x41F6F110,
   0x4202D013, 0x420A9760, 0x4212D517, 0x421B9041, 0x4224D054, 0x422E9D37,
   0x4238FF49, 0x4243FF6A, 0x424FA700, 0x425C0000, 0x426914F6, 0x4276F110,
   0x4282D013, 0x428A9760, 0x4292D517, 0x429B9041, 0x42A4D054, 0x42AE9D37,
   0x42B8FF49, 0x42C3FF6A, 0x42CFA700, 0x42DC0000, 0x42E914F6, 0x42F6F110,
   0x4302D013, 0x430A9760, 0x4312D517, 0x431B9041, 0x4324D054, 0x432E9D37]

/-- NOTE ROM of R91, entries 54 to 107. -/
def noteRom54 : List F32 :=
  [0x4338FF49, 0x4343FF6A, 0x434FA700, 0x435C0000, 0x436914F6, 0x4376F110,
   0x4382D013, 0x438A9760, 0x4392D517, 0x439B9041, 0x43A4D054, 0x43AE9D37,
   0x43B8FF49, 0x43C3FF6A, 0x43CFA700, 0x43DC0000, 0x43E914F6, 0x43F6F110,
   0x4402D013, 0x440A9760, 0x4412D517, 0x441B9041, 0x4424D054, 0x442E9D37,
   0x4438FF49, 0x4443FF6A, 0x444FA700, 0x445C0000, 0x446914F6, 0x4476F110,
   0x4482D013, 0x448A9760, 0x4492D517, 0x449B9041, 0x44A4D054, 0x44AE9D37,
   0x44B8FF49, 0x44C3FF6A, 0x44CFA700, 0x44DC0000, 0x44E914F6, 0x44F6F110,
   0x4502D013, 0x450A9760, 0x4512D517, 0x451B9041, 0x4524D054, 0x452E9D37,
   0x4538FF49, 0x4543FF6A, 0x454FA700, 0x455C0000, 0x456914F6, 0x4576F110]

/-- SINE_TABLE default: entry k is the correctly rounded sine of k degrees (R87). -/
def defaultSineTable : List F32 :=
  sineRom0 ++ sineRom60 ++ sineRom120 ++ sineRom180 ++ sineRom240 ++ sineRom300

/-- NOTE_TABLE default: equal temperament with entry 69 = 440.0 (R91). -/
def defaultNoteTable : List F32 :=
  noteRom0 ++ noteRom54

end Sys2Proof.Machine
end

