-- ==== Sys2Proof/Machine/Transcendental.lean ====
section
/-! DEFINITION. The default EXP2 (R24) and the default BIQUAD_COEFFS (R253). Each is one rounding of a real
expression. The real functions are evaluated by exact rational Taylor polynomials on constants of 256
fractional bits, so that the rational handed to `rnd32` is within a relative 2^-240 of the real number
(log entries 7 and 8). -/

namespace Sys2Proof.Machine

/-- ln 2 to 256 fractional bits, rounded down. -/
def ln2Approx : Rat :=
  mkRat 80260960185991308862233904206310070533990667611589946606122867505419956976171 (2 ^ 256)

/-- π to 256 fractional bits, rounded down. -/
def piApprox : Rat :=
  mkRat 363771576891766324280234942777729862653393377328392429958772151117938894466185 (2 ^ 256)

/-- 1/√2 to 256 fractional bits, rounded down. -/
def invSqrt2Approx : Rat :=
  mkRat 81877371507464127617551201542979628307507432471243237061821853600756754782485 (2 ^ 256)

/-- Horner steps of the exponential series: `1 + z/1 (1 + z/2 (… (1 + z/n · acc)))`. -/
def expHorner : Nat → Rat → Rat → Rat
  | 0, _, acc => acc
  | n + 1, z, acc => expHorner n z (1 + z / ((n + 1 : Nat) : Rat) * acc)

/-- 2^x for a rational x in [-1/2, 1/2]: 46 terms of the series of exp(x ln 2). -/
def exp2Rational (x : Rat) : Rat := expHorner 46 (x * ln2Approx) 1

/-- The default EXP2: the correctly rounded 2^val(x) (R24; log entry 7). -/
def exp2Default (x : F32) : F32 := rnd32 (exp2Rational (val x))

/-- Horner steps of the sine series in zz = z²: `1 - zz/(2·3) (1 - zz/(4·5) (…))`. -/
def sinHorner : Nat → Rat → Rat → Rat
  | 0, _, acc => acc
  | n + 1, zz, acc =>
      sinHorner n zz (1 - zz / (((2 * (n + 1)) * (2 * (n + 1) + 1) : Nat) : Rat) * acc)

/-- sin(2πt) for a rational t in [-1/4, 1/4]: 33 terms after the first of the sine series. It is exactly 0
for t = 0. -/
def sinTurns (t : Rat) : Rat :=
  let z := 2 * piApprox * t
  z * sinHorner 33 (z * z) 1

/-- The default BIQUAD_COEFFS (R253; log entry 8), with w0 = 2πt and t = fc / SAMPLE_RATE in [0, 1/2]:
sin w0 = sin(2π(1/2 - t)), 1 - cos w0 = 2 sin²(w0/2) and cos w0 = sin(2π(1/4 - t)). -/
def rbjLowPassCoeffs (sampleRate : Nat) (fc r : F32) : BiquadCoeffs :=
  let t := val fc / (sampleRate : Rat)
  let sinW := sinTurns (if t ≤ 1 / 4 then t else 1 / 2 - t)
  let cosW := sinTurns (1 / 4 - t)
  let halfSin := sinTurns (t / 2)
  let oneMinusCos := 2 * (halfSin * halfSin)
  let q := invSqrt2Approx + (10 - invSqrt2Approx) * val r
  let alpha := sinW / (2 * q)
  let a0 := 1 + alpha
  { b0 := rnd32 (oneMinusCos / 2 / a0)
    b1 := rnd32 (oneMinusCos / a0)
    b2 := rnd32 (oneMinusCos / 2 / a0)
    a1 := rnd32 (-2 * cosW / a0)
    a2 := rnd32 ((1 - alpha) / a0) }

end Sys2Proof.Machine
end

