-- ==== Sys2Proof/Machine/Defaults.lean ====
section
/-! DEFINITION. Reading the parameters, and their defaults (R8, R14, R55). -/

namespace Sys2Proof.Machine

/-- `MemRead(SINE, k, 4)` (R14, R75). Outside the ROM: a free value that no legal table reads (R76; log
entry 10). -/
def memReadSine (p : Params) (k : Nat) : F32 := (p.sineTable[k]?).getD (Config.romOutside k)

/-- `MemRead(NOTE, n, 4)` (R14, R75). Outside the ROM: as for SINE. -/
def memReadNote (p : Params) (n : Nat) : F32 := (p.noteTable[n]?).getD (Config.romOutside n)

/-- The parameter EXP2 as a function (R24). -/
def exp2Of (p : Params) (x : F32) : F32 :=
  match p.exp2 with
  | .correctlyRounded => exp2Default x
  | .table entries otherwise => (entries.lookup x).getD otherwise

/-- The parameter BIQUAD_COEFFS as a function (R252). -/
def biquadOf (p : Params) (fc r : F32) : BiquadCoeffs :=
  match p.biquad with
  | .rbjLowPass => rbjLowPassCoeffs p.sampleRate fc r
  | .table entries otherwise => (entries.lookup (fc, r)).getD otherwise

/-- The parameter NOISE_SEED_RESET as a function of voice index and unit code (R8). -/
def noiseSeedReset (p : Params) (v u : Nat) : BitVec 32 :=
  match p.seed with
  | .voiceAndUnit => BitVec.ofNat 32 ((v <<< 8) ||| (u + 1))
  | .table entries otherwise => (entries.lookup (v, u)).getD otherwise

/-- The default of FC_MAX at a sample rate: rnd32(0.45 × SAMPLE_RATE) (R8). -/
def defaultFcMax (sampleRate : Nat) : F32 := rnd32 (45 / 100 * (sampleRate : Rat))

/-- The defaults of R8 for every parameter but SAMPLE_RATE. -/
def defaultParamsAt (sampleRate : Nat) : Params :=
  { sampleRate := sampleRate
    seed := .voiceAndUnit
    exp2 := .correctlyRounded
    noteTable := defaultNoteTable
    sineTable := defaultSineTable
    biquad := .rbjLowPass
    fcMin := hz20
    fcMax := defaultFcMax sampleRate }

/-- The defaults of R8, SAMPLE_RATE 48000 included; FC_MAX is then 21600.0. -/
def defaultParams : Params := defaultParamsAt 48000

end Sys2Proof.Machine
end

