-- ==== Sys2Proof/Machine/Operands.lean ====
section
/-! DEFINITION. The operand forms: unit codes and their ports, the operand formats and their reserved bits,
which units and which format each opcode takes (R31, R104, R106, R110, R333). -/

namespace Sys2Proof.Machine

/-- The unit codes of R31; 12 to 15 are reserved. -/
def unitOfCode (code : BitVec 4) : Option UnitId :=
  match code with
  | 0#4 => some (.osc .vco1)
  | 1#4 => some (.osc .vco2)
  | 2#4 => some (.osc .lfoVco)
  | 3#4 => some (.osc .lfoVcf)
  | 4#4 => some (.osc .lfoVca)
  | 5#4 => some (.eg .vcf)
  | 6#4 => some (.eg .vca)
  | 7#4 => some .vcf
  | 8#4 => some .vca
  | 9#4 => some .mix
  | 10#4 => some .voice
  | 11#4 => some .dec
  | _ => none

/-- The code of a unit (R31). -/
def unitCode : UnitId → BitVec 4
  | .osc .vco1 => 0#4
  | .osc .vco2 => 1#4
  | .osc .lfoVco => 2#4
  | .osc .lfoVcf => 3#4
  | .osc .lfoVca => 4#4
  | .eg .vcf => 5#4
  | .eg .vca => 6#4
  | .vcf => 7#4
  | .vca => 8#4
  | .mix => 9#4
  | .voice => 10#4
  | .dec => 11#4

/-- The only port on which a command to a unit is legal: CPORT for the decoder, APORT for the rest. By R110
the unit determines `port(OPC, UNIT)` of R333 for every opcode that accepts it. -/
def unitPort : UnitId → Port
  | .dec => .cport
  | _ => .aport

/-- The oscillator a unit is, for the opcodes that accept units 0 to 4 (R110). -/
def selectOsc : UnitId → Option OscId
  | .osc o => some o
  | _ => none

/-- The envelope generator a unit is, for the opcodes that accept units 5 and 6 (R110). -/
def selectEg : UnitId → Option EgId
  | .eg e => some e
  | _ => none

/-- Unit 7 only (R110). -/
def selectVcf : UnitId → Option Unit
  | .vcf => some ()
  | _ => none

/-- Unit 8 only (R110). -/
def selectVca : UnitId → Option Unit
  | .vca => some ()
  | _ => none

/-- Unit 9 only (R110). -/
def selectMix : UnitId → Option Unit
  | .mix => some ()
  | _ => none

/-- Unit 10 only (R110). -/
def selectVoice : UnitId → Option Unit
  | .voice => some ()
  | _ => none

/-- Unit 11 only (R110). -/
def selectDec : UnitId → Option Unit
  | .dec => some ()
  | _ => none

/-- Units 0 to 11, for READ_REG (R110). -/
def selectAny (u : UnitId) : Option UnitId := some u

/-- `reserved_mask` of R333: the OPERAND bits that must be zero in a format (R104). -/
def reservedMask : OperandFormat → BitVec 32
  | .none => 0xFFFFFFFF#32
  | .f32 => 0#32
  | .u32 => 0#32
  | .s32 => 0#32
  | .wave => 0xFFFFFFF8#32
  | .keyvel => 0xFFFF0000#32
  | .byte => 0xFFFFFF00#32
  | .regidx => 0#32

/-- Whether RSV or a reserved OPERAND bit is set (R102, R333). -/
def reservedBitsSet (fmt : OperandFormat) (c : CommandFields) : Bool :=
  c.rsv != 0#12 || (c.operand &&& reservedMask fmt) != 0#32

/-- WAVE operand, OPERAND[2:0] (R104). -/
def waveOperand (c : CommandFields) : BitVec 3 := c.operand.extractLsb' 0 3

/-- KEYVEL operand, key = OPERAND[7:0] (R104). -/
def keyOperand (c : CommandFields) : BitVec 8 := c.operand.extractLsb' 0 8

/-- KEYVEL operand, velocity = OPERAND[15:8] (R104). -/
def velocityOperand (c : CommandFields) : BitVec 8 := c.operand.extractLsb' 8 8

/-- BYTE operand, OPERAND[7:0] (R104). -/
def byteOperand (c : CommandFields) : BitVec 8 := c.operand.extractLsb' 0 8

/-- The operand format column of R110. NOP ignores its operand (R321). -/
def instrFormat : Instr → OperandFormat
  | .nop _ => .none
  | .oscSetWaveform _ => .wave
  | .oscSetFrequency _ => .f32
  | .oscSetMidiNote _ => .u32
  | .oscSetDetune _ => .f32
  | .oscSetOctave _ => .s32
  | .oscSetModDepth _ => .f32
  | .oscSetSeed _ => .u32
  | .oscAdvance _ => .none
  | .oscRead _ => .none
  | .egSetAttack _ => .f32
  | .egSetDecay _ => .f32
  | .egSetSustain _ => .f32
  | .egSetRelease _ => .f32
  | .egNoteOn _ => .f32
  | .egNoteOff _ => .none
  | .egAdvance _ => .none
  | .egRead _ => .none
  | .vcfSetCutoff _ => .f32
  | .vcfSetResonance _ => .f32
  | .vcfSetModVolume _ => .f32
  | .vcfAdvance _ => .none
  | .vcfRead _ => .none
  | .vcaSetModVolume _ => .f32
  | .vcaAdvance _ => .none
  | .vcaRead _ => .none
  | .mixAdvance _ => .none
  | .mixRead _ => .none
  | .voiceNoteOn _ => .keyvel
  | .voiceNoteOff _ => .none
  | .voiceAdvance _ => .none
  | .voiceRead _ => .none
  | .voiceState _ => .none
  | .voiceKey _ => .none
  | .readReg _ => .regidx
  | .decByte _ => .byte
  | .decClearCounters _ => .none

/-- The units column of R110. NOP ignores its unit (R321). -/
def instrAccepts : Instr → UnitId → Bool
  | .nop _, _ => true
  | .oscSetWaveform _, u => (selectOsc u).isSome
  | .oscSetFrequency _, u => (selectOsc u).isSome
  | .oscSetMidiNote _, u => (selectOsc u).isSome
  | .oscSetDetune _, u => (selectOsc u).isSome
  | .oscSetOctave _, u => (selectOsc u).isSome
  | .oscSetModDepth _, u => (selectOsc u).isSome
  | .oscSetSeed _, u => (selectOsc u).isSome
  | .oscAdvance _, u => (selectOsc u).isSome
  | .oscRead _, u => (selectOsc u).isSome
  | .egSetAttack _, u => (selectEg u).isSome
  | .egSetDecay _, u => (selectEg u).isSome
  | .egSetSustain _, u => (selectEg u).isSome
  | .egSetRelease _, u => (selectEg u).isSome
  | .egNoteOn _, u => (selectEg u).isSome
  | .egNoteOff _, u => (selectEg u).isSome
  | .egAdvance _, u => (selectEg u).isSome
  | .egRead _, u => (selectEg u).isSome
  | .vcfSetCutoff _, u => (selectVcf u).isSome
  | .vcfSetResonance _, u => (selectVcf u).isSome
  | .vcfSetModVolume _, u => (selectVcf u).isSome
  | .vcfAdvance _, u => (selectVcf u).isSome
  | .vcfRead _, u => (selectVcf u).isSome
  | .vcaSetModVolume _, u => (selectVca u).isSome
  | .vcaAdvance _, u => (selectVca u).isSome
  | .vcaRead _, u => (selectVca u).isSome
  | .mixAdvance _, u => (selectMix u).isSome
  | .mixRead _, u => (selectMix u).isSome
  | .voiceNoteOn _, u => (selectVoice u).isSome
  | .voiceNoteOff _, u => (selectVoice u).isSome
  | .voiceAdvance _, u => (selectVoice u).isSome
  | .voiceRead _, u => (selectVoice u).isSome
  | .voiceState _, u => (selectVoice u).isSome
  | .voiceKey _, u => (selectVoice u).isSome
  | .readReg _, u => (selectAny u).isSome
  | .decByte _, u => (selectDec u).isSome
  | .decClearCounters _, u => (selectDec u).isSome

end Sys2Proof.Machine
end

