-- ==== Sys2Proof/Machine/Reset.lean ====
section
/-! DEFINITION. The reset values of every unit field (R34, R35, R42, R44 to R47, R50, R361). -/

namespace Sys2Proof.Machine

/-- An oscillator of voice v after reset; u is its unit code (R35). -/
def resetOsc (p : Params) (v : Nat) (o : OscId) : Osc :=
  { wave := .sine
    base := hz440
    eff := hz440
    detune := plusZero
    octave := 0#32
    depth := plusZero
    phase := 0#32
    out := plusZero
    noise := noiseSeedReset p v (unitCode (.osc o)).toNat }

/-- An envelope generator after reset (R42). -/
def resetEg : Eg :=
  { state := .idle
    level := plusZero
    attack := plusZero
    decay := plusZero
    sustain := plusOne
    release := plusZero
    peak := plusZero
    segStart := plusZero
    segCount := 0#32 }

/-- The filter after reset (R44). -/
def resetVcf : Vcf :=
  { cutoff := hz20000
    resonance := plusZero
    modvol := plusZero
    x1 := plusZero
    x2 := plusZero
    y1 := plusZero
    y2 := plusZero
    out := plusZero }

/-- The amplifier after reset (R45). -/
def resetVca : Vca := { modvol := plusZero, out := plusZero }

/-- The mixer after reset (R46). -/
def resetMix : Mix := { out := plusZero }

/-- Voice v after reset (R361). -/
def resetVoice (p : Params) (v : Nat) : Voice :=
  { vco1 := resetOsc p v .vco1
    vco2 := resetOsc p v .vco2
    lfoVco := resetOsc p v .lfoVco
    lfoVcf := resetOsc p v .lfoVcf
    lfoVca := resetOsc p v .lfoVca
    egVcf := resetEg
    egVca := resetEg
    vcf := resetVcf
    vca := resetVca
    mix := resetMix
    key := 0#8 }

/-- A decoder after reset, its event output empty (R50, R51, R360). -/
def resetDecoder : Decoder :=
  { state := .start
    address := 0#7
    value := 0#14
    frameErr := 0#32
    parityErr := 0#32
    events := [] }

/-- The voices after reset, for a number of voices (R361). -/
def resetVoices (p : Params) (n : Nat) : List Voice := (List.range n).map (resetVoice p)

/-- The decoders after reset, for a number of decoders (R361). -/
def resetDecoders (n : Nat) : List Decoder := List.replicate n resetDecoder

end Sys2Proof.Machine
end

