-- ==== Sys2Proof/Machine/State.lean ====
section
/-! DEFINITION. The state of the block (R30 to R56), the state after reset, and the reasons a step can stop. -/

namespace Sys2Proof.Machine

/-- The whole state. `params` is constant (R55; log entry 5). The instance counts N_VOICES and N_DECODERS
are the lengths of `voices` and `decoders` (log entry 6). The last four fields are the model's own: the host
interactions not yet taken, the port of the command being executed, and the responses given on each port,
oldest first (log entries 1, 3 and 4). -/
structure State where
  params : Params
  voices : List Voice
  decoders : List Decoder
  inputs : List HostInput
  port : Port
  aportOut : List Response
  cportOut : List Response
deriving DecidableEq, Repr

/-- Faults. The spec treats no behaviour of the block as a fault (R330; 93_implementation_defined.md), so
there is none. Safe: no step can answer one. -/
inductive Fault where
deriving DecidableEq, Repr

/-- Refusals. -/
inductive Refusal where
  /-- A command without a meaning in this model. No command raises it: every arm of exec has its meaning.
  Safe. -/
  | notModelled (mnemonic : String)
deriving DecidableEq, Repr

/-- The state after reset of a block with given parameters and instance counts, before the first command
(R360, R361). -/
def State.resetWith (p : Params) (nVoices nDecoders : Nat) : State :=
  { params := p
    voices := resetVoices p nVoices
    decoders := resetDecoders nDecoders
    inputs := []
    port := .aport
    aportOut := []
    cportOut := [] }

/-- The state after reset with the defaults of R8: one voice, one decoder (R361). -/
def State.reset : State := State.resetWith defaultParams 1 1

end Sys2Proof.Machine
end

