-- ==== Sys2Proof/Machine/Ops.lean ====
section
/-! DEFINITION. The shared operations: unit access inside a voice, responding, rejecting, the check order of
R333, and the templates of the voice commands and the decoder commands. The block takes no exception and has
no return from one (R330, R340, R341); rejection with a STATUS is what stands in their place. -/

namespace Sys2Proof.Machine

/-- Read an oscillator of a voice (R12). -/
def Voice.osc (V : Voice) : OscId → Osc
  | .vco1 => V.vco1
  | .vco2 => V.vco2
  | .lfoVco => V.lfoVco
  | .lfoVcf => V.lfoVcf
  | .lfoVca => V.lfoVca

/-- Write an oscillator of a voice (R12). -/
def Voice.setOsc (V : Voice) : OscId → Osc → Voice
  | .vco1, x => { V with vco1 := x }
  | .vco2, x => { V with vco2 := x }
  | .lfoVco, x => { V with lfoVco := x }
  | .lfoVcf, x => { V with lfoVcf := x }
  | .lfoVca, x => { V with lfoVca := x }

/-- Read an envelope generator of a voice (R12). -/
def Voice.eg (V : Voice) : EgId → Eg
  | .vcf => V.egVcf
  | .vca => V.egVca

/-- Write an envelope generator of a voice (R12). -/
def Voice.setEg (V : Voice) : EgId → Eg → Voice
  | .vcf, x => { V with egVcf := x }
  | .vca, x => { V with egVca := x }

/-- Write voice v. -/
def State.setVoice (s : State) (v : Nat) (V : Voice) : State :=
  { s with voices := s.voices.set v V }

/-- Write decoder d. -/
def State.setDecoder (s : State) (d : Nat) (D : Decoder) : State :=
  { s with decoders := s.decoders.set d D }

/-- `respond(status, data)` on the port of the command (R13, R103). -/
def State.respond (s : State) (status : Status) (data : BitVec 32) : State :=
  match s.port with
  | .aport => { s with aportOut := s.aportOut ++ [{ status, data }] }
  | .cport => { s with cportOut := s.cportOut ++ [{ status, data }] }

/-- `raise status`: respond with DATA 0, no state written (R13, R334). -/
def raise (status : Status) (s : State) : Host.Outcome State Fault Refusal :=
  .next (s.respond status 0#32)

/-- What a command's own rule answers, after the common checks: CONTRACT_VIOLATION, or OK with the unit's new
contents and DATA. -/
inductive Reply (α : Type) where
  | violation
  | ok (new : α) (data : BitVec 32)
deriving DecidableEq, Repr

/-- The template of every command to a voice unit: the checks of R333 in their order, then the command's own
rule on the voice (R140, R190, R220, R250, R270). `select` is the opcode's unit set (R110). -/
def voiceCommand {α : Type} (select : UnitId → Option α) (fmt : OperandFormat) (c : CommandFields) (s : State)
    (rule : α → Voice → Reply Voice) : Host.Outcome State Fault Refusal :=
  match unitOfCode c.unit with
  | none => raise .illegalUnit s
  | some u =>
    match select u with
    | none => raise .illegalUnit s
    | some target =>
      if s.port ≠ unitPort u then raise .wrongPort s
      else
        match s.voices[c.inst.toNat]? with
        | none => raise .badInstance s
        | some V =>
          if reservedBitsSet fmt c then raise .reservedBits s
          else
            match rule target V with
            | .violation => raise .contractViolation s
            | .ok V' data => .next ((s.setVoice c.inst.toNat V').respond .ok data)

/-- The template of every command to a decoder: the checks of R333 in their order, then the command's own
rule on the decoder (R290). -/
def decoderCommand {α : Type} (select : UnitId → Option α) (fmt : OperandFormat) (c : CommandFields) (s : State)
    (rule : α → Decoder → Reply Decoder) : Host.Outcome State Fault Refusal :=
  match unitOfCode c.unit with
  | none => raise .illegalUnit s
  | some u =>
    match select u with
    | none => raise .illegalUnit s
    | some target =>
      if s.port ≠ unitPort u then raise .wrongPort s
      else
        match s.decoders[c.inst.toNat]? with
        | none => raise .badInstance s
        | some D =>
          if reservedBitsSet fmt c then raise .reservedBits s
          else
            match rule target D with
            | .violation => raise .contractViolation s
            | .ok D' data => .next ((s.setDecoder c.inst.toNat D').respond .ok data)

/-- A command to one oscillator (R140). -/
def oscCommand (fmt : OperandFormat) (c : CommandFields) (s : State) (rule : Osc → Reply Osc) :
    Host.Outcome State Fault Refusal :=
  voiceCommand selectOsc fmt c s fun o V =>
    match rule (V.osc o) with
    | .violation => .violation
    | .ok x data => .ok (V.setOsc o x) data

/-- A command to one envelope generator (R220). -/
def egCommand (fmt : OperandFormat) (c : CommandFields) (s : State) (rule : Eg → Reply Eg) :
    Host.Outcome State Fault Refusal :=
  voiceCommand selectEg fmt c s fun e V =>
    match rule (V.eg e) with
    | .violation => .violation
    | .ok x data => .ok (V.setEg e x) data

/-- A command to the filter (R250). -/
def vcfCommand (fmt : OperandFormat) (c : CommandFields) (s : State) (rule : Vcf → Reply Vcf) :
    Host.Outcome State Fault Refusal :=
  voiceCommand selectVcf fmt c s fun _ V =>
    match rule V.vcf with
    | .violation => .violation
    | .ok x data => .ok { V with vcf := x } data

/-- A command to the amplifier (R270). -/
def vcaCommand (fmt : OperandFormat) (c : CommandFields) (s : State) (rule : Vca → Reply Vca) :
    Host.Outcome State Fault Refusal :=
  voiceCommand selectVca fmt c s fun _ V =>
    match rule V.vca with
    | .violation => .violation
    | .ok x data => .ok { V with vca := x } data

/-- A command to the mixer (R270). -/
def mixCommand (fmt : OperandFormat) (c : CommandFields) (s : State) (rule : Mix → Reply Mix) :
    Host.Outcome State Fault Refusal :=
  voiceCommand selectMix fmt c s fun _ V =>
    match rule V.mix with
    | .violation => .violation
    | .ok x data => .ok { V with mix := x } data

/-- Store the result of a range check or reject (R105, R331). -/
def checked {α : Type} (legal : Bool) (new : α) : Reply α :=
  if legal then .ok new 0#32 else .violation

end Sys2Proof.Machine
end

