-- ==== Sys2Proof/Machine/Filter.lean ====
section
/-! DEFINITION. The filter: cutoff modulation, the recurrence, and the meanings of the VCF_ commands (R250 to
R263). -/

namespace Sys2Proof.Machine

/-- The gain an LFO sample l leaves at modulation volume m: 1 - m (1 - l) / 2 (R259, R274). -/
def lfoGain (m l : F32) : Rat := 1 - val m * (1 - val l) / 2

/-- The modulated cutoff fc (R259). -/
def modulatedCutoff (p : Params) (c : Vcf) (l e : F32) : F32 :=
  clampF32 (rnd32 (val c.cutoff * (val e * lfoGain c.modvol l))) p.fcMin p.fcMax

/-- The unclamped output y0, Direct Form I, one rounding (R260). DESIGN CHOICE (log entry 19): R23 says that +inf arises
only as an EFF that overflows and R260 that y0 is finite with finite coefficients, but a substitute BIQUAD_COEFFS that
R252 admits may have coefficients so large that the exact sum overflows an f32. This follows R17: y0 is then an
infinity, and the clamp of R261 makes it -1.0 or +1.0. -/
def biquadOut (k : BiquadCoeffs) (c : Vcf) (x : F32) : F32 :=
  rnd32 (val k.b0 * val x + val k.b1 * val c.x1 + val k.b2 * val c.x2 - val k.a1 * val c.y1 - val k.a2 * val c.y2)

/-- `vcf_step(c, x, l, e)`: the clamped output enters the feedback path (R259 to R261). -/
def vcfStep (p : Params) (c : Vcf) (x l e : F32) : Vcf :=
  let y := clampF32 (biquadOut (biquadOf p (modulatedCutoff p c l e) c.resonance) c x) minusOne plusOne
  { c with x2 := c.x1, x1 := x, y2 := c.y1, y1 := y, out := y }

/-- VCF_SET_CUTOFF (R254). -/
def execVcfSetCutoff (c : CommandFields) (s : State) : Host.Outcome State Fault Refusal :=
  vcfCommand .f32 c s fun f => checked (f32FinitePositive c.operand) { f with cutoff := c.operand }

/-- VCF_SET_RESONANCE (R255). -/
def execVcfSetResonance (c : CommandFields) (s : State) : Host.Outcome State Fault Refusal :=
  vcfCommand .f32 c s fun f => checked (f32Within c.operand 0 1) { f with resonance := c.operand }

/-- VCF_SET_MOD_VOLUME (R256). -/
def execVcfSetModVolume (c : CommandFields) (s : State) : Host.Outcome State Fault Refusal :=
  vcfCommand .f32 c s fun f => checked (f32Within c.operand 0 1) { f with modvol := c.operand }

/-- VCF_ADVANCE: reads MIX.OUT, LFO_VCF.OUT and EG_VCF.LEVEL as they stand (R257, R371). -/
def execVcfAdvance (c : CommandFields) (s : State) : Host.Outcome State Fault Refusal :=
  voiceCommand selectVcf .none c s fun _ V =>
    .ok { V with vcf := vcfStep s.params V.vcf V.mix.out V.lfoVcf.out V.egVcf.level } 0#32

/-- VCF_READ (R258). -/
def execVcfRead (c : CommandFields) (s : State) : Host.Outcome State Fault Refusal :=
  vcfCommand .none c s fun f => .ok f f.out

end Sys2Proof.Machine
end

