-- ==== Sys2Proof/Machine/AmpMixer.lean ====
section
/-! DEFINITION. The amplifier and the mixer, and the meanings of the VCA_ and MIX_ commands (R270 to R284). -/

namespace Sys2Proof.Machine

/-- `vca_step(a, x, l, e)` (R274). It reads no field that it writes, so a repeated VCA_ADVANCE leaves the state the
first one leaves. DESIGN CHOICE (log entry 18): R81 says that of the state-changing commands DEC_CLEAR_COUNTERS alone
is idempotent; the model follows the pseudocode of R274. -/
def vcaStep (a : Vca) (x l e : F32) : Vca :=
  { a with out := rnd32 (val x * val e * lfoGain a.modvol l) }

/-- `mix_step(m, a, b)`: the average, rounded once (R282). It reads no field that it writes, so a repeated
MIX_ADVANCE leaves the state the first one leaves. DESIGN CHOICE (log entry 18): R81 says that of the state-changing
commands DEC_CLEAR_COUNTERS alone is idempotent; the model follows the pseudocode of R282. -/
def mixStep (m : Mix) (a b : F32) : Mix := { m with out := rnd32 ((val a + val b) / 2) }

/-- VCA_SET_MOD_VOLUME (R271). -/
def execVcaSetModVolume (c : CommandFields) (s : State) : Host.Outcome State Fault Refusal :=
  vcaCommand .f32 c s fun a => checked (f32Within c.operand 0 1) { a with modvol := c.operand }

/-- VCA_ADVANCE: reads VCF.OUT, LFO_VCA.OUT and EG_VCA.LEVEL as they stand (R272, R371). -/
def execVcaAdvance (c : CommandFields) (s : State) : Host.Outcome State Fault Refusal :=
  voiceCommand selectVca .none c s fun _ V =>
    .ok { V with vca := vcaStep V.vca V.vcf.out V.lfoVca.out V.egVca.level } 0#32

/-- VCA_READ (R273). -/
def execVcaRead (c : CommandFields) (s : State) : Host.Outcome State Fault Refusal :=
  vcaCommand .none c s fun a => .ok a a.out

/-- MIX_ADVANCE: reads VCO1.OUT and VCO2.OUT as they stand (R280, R371). -/
def execMixAdvance (c : CommandFields) (s : State) : Host.Outcome State Fault Refusal :=
  voiceCommand selectMix .none c s fun _ V =>
    .ok { V with mix := mixStep V.mix V.vco1.out V.vco2.out } 0#32

/-- MIX_READ (R281). -/
def execMixRead (c : CommandFields) (s : State) : Host.Outcome State Fault Refusal :=
  mixCommand .none c s fun m => .ok m m.out

end Sys2Proof.Machine
end

