-- ==== Sys2Proof/Machine/Envelope.lean ====
section
/-! DEFINITION. The envelope generator: segment lengths, the per-sample step, note-on and note-off, and the
meanings of the EG_ commands (R220 to R239). -/

namespace Sys2Proof.Machine

/-- `seg_len` (R222). -/
def segLen (p : Params) (t : F32) : Nat := clampNat (roundHalfAway (val t * (p.sampleRate : Rat))) 1 maxU32

/-- The segment counter after one more sample, saturating (R231). -/
def segAdvance (e : Eg) : Nat := min (e.segCount.toNat + 1) maxU32

/-- A point of the straight line from a to b after n of N samples (R232, R233). -/
def linePoint (a b : Rat) (n N : Nat) : Rat := a + (b - a) * (n : Rat) / (N : Rat)

/-- The attack step (R232). -/
def egAttackStep (p : Params) (e : Eg) : Eg :=
  let N := segLen p e.attack
  let n := segAdvance e
  if N ≤ n then { e with level := e.peak, state := .decay, segStart := e.peak, segCount := 0#32 }
  else { e with segCount := BitVec.ofNat 32 n, level := rnd32 (linePoint (val e.segStart) (val e.peak) n N) }

/-- The decay step, towards SUSTAIN × PEAK (R233). -/
def egDecayStep (p : Params) (e : Eg) : Eg :=
  let target := val e.sustain * val e.peak
  let N := segLen p e.decay
  let n := segAdvance e
  if N ≤ n then { e with level := rnd32 target, state := .sustain, segCount := 0#32 }
  else { e with segCount := BitVec.ofNat 32 n, level := rnd32 (linePoint (val e.segStart) target n N) }

/-- The sustain step (R234). -/
def egSustainStep (e : Eg) : Eg := { e with level := rnd32 (val e.sustain * val e.peak) }

/-- The release step (R235). -/
def egReleaseStep (p : Params) (e : Eg) : Eg :=
  let N := segLen p e.release
  let n := segAdvance e
  if N ≤ n then { e with level := plusZero, state := .idle, segCount := 0#32 }
  else
    { e with
      segCount := BitVec.ofNat 32 n
      level := rnd32 (val e.segStart * (1 - (n : Rat) / (N : Rat))) }

/-- `eg_step(e)` (R231). -/
def egStep (p : Params) (e : Eg) : Eg :=
  match e.state with
  | .idle => { e with level := plusZero }
  | .attack => egAttackStep p e
  | .decay => egDecayStep p e
  | .sustain => egSustainStep e
  | .release => egReleaseStep p e

/-- `eg_note_on(e, v)` (R227). -/
def egNoteOn (e : Eg) (v : F32) : Eg :=
  { e with state := .attack, peak := v, segStart := e.level, segCount := 0#32 }

/-- `eg_note_off(e)` (R228). -/
def egNoteOff (e : Eg) : Eg := { e with state := .release, segStart := e.level, segCount := 0#32 }

/-- EG_SET_ATTACK (R223). -/
def execEgSetAttack (c : CommandFields) (s : State) : Host.Outcome State Fault Refusal :=
  egCommand .f32 c s fun e => checked (f32FiniteNonneg c.operand) { e with attack := c.operand }

/-- EG_SET_DECAY (R224). -/
def execEgSetDecay (c : CommandFields) (s : State) : Host.Outcome State Fault Refusal :=
  egCommand .f32 c s fun e => checked (f32FiniteNonneg c.operand) { e with decay := c.operand }

/-- EG_SET_SUSTAIN (R225). -/
def execEgSetSustain (c : CommandFields) (s : State) : Host.Outcome State Fault Refusal :=
  egCommand .f32 c s fun e => checked (f32Within c.operand 0 1) { e with sustain := c.operand }

/-- EG_SET_RELEASE (R226). -/
def execEgSetRelease (c : CommandFields) (s : State) : Host.Outcome State Fault Refusal :=
  egCommand .f32 c s fun e => checked (f32FiniteNonneg c.operand) { e with release := c.operand }

/-- EG_NOTE_ON (R227). -/
def execEgNoteOn (c : CommandFields) (s : State) : Host.Outcome State Fault Refusal :=
  egCommand .f32 c s fun e => checked (f32Within c.operand 0 1) (egNoteOn e c.operand)

/-- EG_NOTE_OFF (R228). -/
def execEgNoteOff (c : CommandFields) (s : State) : Host.Outcome State Fault Refusal :=
  egCommand .none c s fun e => .ok (egNoteOff e) 0#32

/-- EG_ADVANCE (R229). -/
def execEgAdvance (c : CommandFields) (s : State) : Host.Outcome State Fault Refusal :=
  egCommand .none c s fun e => .ok (egStep s.params e) 0#32

/-- EG_READ (R230). -/
def execEgRead (c : CommandFields) (s : State) : Host.Outcome State Fault Refusal :=
  egCommand .none c s fun e => .ok e e.level

end Sys2Proof.Machine
end

