-- ==== Sys2Proof/Machine/Oscillator.lean ====
section
/-! DEFINITION. The oscillator: effective frequency, the per-sample step, the waveforms, and the meanings of
the OSC_ commands (R140 to R170). -/

namespace Sys2Proof.Machine

/-- `eff_of`: one rounding of BASE × EXP2(DETUNE) × 2^OCTAVE (R150). -/
def effOf (p : Params) (base detune : F32) (octave : BitVec 32) : F32 :=
  rnd32 (val base * val (exp2Of p detune) * pow2 octave.toInt)

/-- Recompute EFF after a write of BASE, DETUNE or OCTAVE (R37). -/
def Osc.refreshEff (p : Params) (o : Osc) : Osc :=
  { o with eff := effOf p o.base o.detune o.octave }

/-- The instantaneous frequency, with the modulator's OUT word or without a modulator (R153). -/
def instantFrequency (o : Osc) (m : Option F32) : F32 :=
  match m with
  | none => o.eff
  | some l => if o.eff = plusInf then plusInf else rnd32 (val o.eff + val l * val o.depth * 20)

/-- Whether a sample at this instantaneous frequency is held: f is not +∞ and its value is at most 0 (R154). A
comparison with a NaN is false (R16). -/
def isHeld (f : F32) : Bool :=
  match f32Value f with
  | .finite q => decide (q ≤ 0)
  | .negInf => true
  | .posInf => false
  | .nan => false

/-- `period_of` (R155). -/
def periodOf (p : Params) (f : F32) : Nat :=
  if f = plusInf then 1 else clampNat (roundHalfAway ((p.sampleRate : Rat) / val f)) 1 maxU32

/-- `lfsr_step` (R165). -/
def lfsrStep (s : BitVec 32) : BitVec 32 :=
  if s.getLsbD 0 then (s >>> 1) ^^^ 0x80200003#32 else s >>> 1

/-- `noise_out`: rnd32(s[31:8] / 2^23 - 1) (R167). -/
def noiseOut (s : BitVec 32) : F32 :=
  rnd32 (((s.extractLsb' 8 24).toNat : Rat) / ((2 ^ 23 : Nat) : Rat) - 1)

/-- ±1.0 by a condition: square and pulse waves (R159, R162, R163). -/
def plusMinusOne (high : Bool) : F32 := if high then plusOne else minusOne

/-- The output of the six periodic waveforms at phase p of period P (R158 to R163); none for noise. -/
def waveOut (par : Params) (wave : Waveform) (p P : Nat) : Option F32 :=
  match wave with
  | .sine => some (memReadSine par (p * 360 / P))
  | .square => some (plusMinusOne (decide (2 * p < P)))
  | .sawtooth => some (rnd32 ((2 * (p : Rat) - (P : Rat)) / (P : Rat)))
  | .triangle =>
      some (if 2 * p < P then rnd32 ((4 * (p : Rat) - (P : Rat)) / (P : Rat))
        else rnd32 ((3 * (P : Rat) - 4 * (p : Rat)) / (P : Rat)))
  | .pulse8 => some (plusMinusOne (decide (8 * p < P)))
  | .pulse4 => some (plusMinusOne (decide (4 * p < P)))
  | .noise => none

/-- The phase an advance uses: PHASE, or 0 when it is at or past the period (R156). -/
def currentPhase (o : Osc) (P : Nat) : Nat := if o.phase.toNat < P then o.phase.toNat else 0

/-- The phase after an advance at phase p (R156). -/
def nextPhase (p P : Nat) : BitVec 32 := BitVec.ofNat 32 (if p + 1 < P then p + 1 else 0)

/-- A sample that is not held, at period P (R157). -/
def oscSample (par : Params) (o : Osc) (P : Nat) : Osc :=
  let p := currentPhase o P
  match waveOut par o.wave p P with
  | some out => { o with out := out, phase := nextPhase p P }
  | none =>
      let n := lfsrStep o.noise
      { o with noise := n, out := noiseOut n, phase := nextPhase p P }

/-- `osc_step(o, m)` (R157). DESIGN CHOICE (log entry 17): R37 says that every advance of an oscillator with EFF
+0.0 holds, R153 and R154 that it holds when the modulated frequency is at most 0. They differ for a VCO with EFF
+0.0 and a positive LFO_VCO.OUT × DEPTH. This follows R153, R154 and R157: that VCO advances. -/
def oscStep (par : Params) (o : Osc) (m : Option F32) : Osc :=
  let f := instantFrequency o m
  if isHeld f then o else oscSample par o (periodOf par f)

/-- The modulator of an oscillator: LFO_VCO for the two VCOs, none for the LFOs (R41). -/
def modulatorOf (V : Voice) : OscId → Option F32
  | .vco1 => some V.lfoVco.out
  | .vco2 => some V.lfoVco.out
  | _ => none

/-- OSC_SET_WAVEFORM (R141). -/
def execOscSetWaveform (c : CommandFields) (s : State) : Host.Outcome State Fault Refusal :=
  oscCommand .wave c s fun o =>
    match waveformOfCode (waveOperand c) with
    | none => .violation
    | some w => .ok { o with wave := w } 0#32

/-- OSC_SET_FREQUENCY (R142). -/
def execOscSetFrequency (c : CommandFields) (s : State) : Host.Outcome State Fault Refusal :=
  oscCommand .f32 c s fun o =>
    checked (f32FinitePositive c.operand) (({ o with base := c.operand } : Osc).refreshEff s.params)

/-- OSC_SET_MIDI_NOTE: an out-of-range note changes nothing and answers OK (R143). -/
def execOscSetMidiNote (c : CommandFields) (s : State) : Host.Outcome State Fault Refusal :=
  oscCommand .u32 c s fun o =>
    if c.operand.toNat < 108 then
      .ok (({ o with base := memReadNote s.params c.operand.toNat } : Osc).refreshEff s.params) 0#32
    else .ok o 0#32

/-- OSC_SET_DETUNE: stores half the operand, rounded once (R144). -/
def execOscSetDetune (c : CommandFields) (s : State) : Host.Outcome State Fault Refusal :=
  oscCommand .f32 c s fun o =>
    checked (f32Within c.operand (-1) 1)
      (({ o with detune := rnd32 (val c.operand / 2) } : Osc).refreshEff s.params)

/-- OSC_SET_OCTAVE (R145). -/
def execOscSetOctave (c : CommandFields) (s : State) : Host.Outcome State Fault Refusal :=
  oscCommand .s32 c s fun o =>
    checked (decide (-3 ≤ c.operand.toInt) && decide (c.operand.toInt ≤ 2))
      (({ o with octave := c.operand } : Osc).refreshEff s.params)

/-- OSC_SET_MOD_DEPTH (R146). -/
def execOscSetModDepth (c : CommandFields) (s : State) : Host.Outcome State Fault Refusal :=
  oscCommand .f32 c s fun o => checked (f32Within c.operand 0 1) { o with depth := c.operand }

/-- OSC_SET_SEED (R147). -/
def execOscSetSeed (c : CommandFields) (s : State) : Host.Outcome State Fault Refusal :=
  oscCommand .u32 c s fun o => checked (c.operand != 0#32) { o with noise := c.operand }

/-- OSC_ADVANCE: advances this oscillator only, reading LFO_VCO.OUT as it stands (R148, R371). -/
def execOscAdvance (c : CommandFields) (s : State) : Host.Outcome State Fault Refusal :=
  voiceCommand selectOsc .none c s fun o V =>
    .ok (V.setOsc o (oscStep s.params (V.osc o) (modulatorOf V o))) 0#32

/-- OSC_READ (R149). -/
def execOscRead (c : CommandFields) (s : State) : Host.Outcome State Fault Refusal :=
  oscCommand .none c s fun o => .ok o o.out

end Sys2Proof.Machine
end

