-- ==== Sys2Proof/Machine/SerialDecoder.lean ====
section
/-! DEFINITION. The serial control decoder: the five-state machine, parity, events and counters, and the
meanings of the DEC_ commands (R290 to R308). -/

namespace Sys2Proof.Machine

/-- `parity16`: 1 for an odd number of set bits (R299). -/
def parity16 (x : BitVec 16) : Bool :=
  (List.range 16).foldl (fun acc k => acc ^^ x.getLsbD k) false

/-- The parity bit of a message: parity16(value XOR zext_16(address)) (R299, R300). -/
def messageParity (address : BitVec 7) (value : BitVec 14) : Bool :=
  parity16 (value.setWidth 16 ^^^ address.setWidth 16)

/-- `accepts(s, b)` for the states after Start (R296). In Start only 0x80 is accepted (R294). -/
def decAccepts (st : DecState) (b : BitVec 8) : Bool :=
  match st with
  | .start => b == 0x80#8
  | .readAddress | .readValue1 | .readValue2 => b.getLsbD 7 == false
  | .readStop => b.extractLsb' 6 2 == 3#2

/-- The start of a message: accumulators reset, ReadAddress next (R294, R297). -/
def decBeginMessage (d : Decoder) : Decoder :=
  { d with address := 0#7, value := 0#14, state := .readAddress }

/-- A framing error: counted once, back to Start, and a 0x80 starts a new message at once (R294, R296, R297). -/
def decFramingError (d : Decoder) (b : BitVec 8) : Decoder :=
  let d' := { d with frameErr := d.frameErr + 1#32, state := .start }
  if b = 0x80#8 then decBeginMessage d' else d'

/-- The end of a message: an event on matching parity, else PARITY_ERR counts (R298, R300, R301). -/
def decStop (d : Decoder) (b : BitVec 8) : Decoder × Option DecEvent :=
  if b.getLsbD 0 = messageParity d.address d.value then
    ({ d with state := .start, events := d.events ++ [{ address := d.address, value := d.value }] },
      some { address := d.address, value := d.value })
  else ({ d with state := .start, parityErr := d.parityErr + 1#32 }, none)

/-- `dec_step(d, b)` (R293). -/
def decStep (d : Decoder) (b : BitVec 8) : Decoder × Option DecEvent :=
  if decAccepts d.state b then
    match d.state with
    | .start => (decBeginMessage d, none)
    | .readAddress => ({ d with address := b.extractLsb' 0 7, state := .readValue1 }, none)
    | .readValue1 => ({ d with value := (b.extractLsb' 0 7).setWidth 14 <<< 7, state := .readValue2 }, none)
    | .readValue2 => ({ d with value := d.value ||| (b.extractLsb' 0 7).setWidth 14, state := .readStop }, none)
    | .readStop => decStop d b
  else (decFramingError d b, none)

/-- `dec_data(ev)`: bit 31 flags an event, 20:14 its address, 13:0 its value (R304). -/
def decData : Option DecEvent → BitVec 32
  | none => 0#32
  | some ev => 0x80000000#32 ||| (ev.address.setWidth 32 <<< 14) ||| ev.value.setWidth 32

/-- DEC_BYTE (R292). -/
def execDecByte (c : CommandFields) (s : State) : Host.Outcome State Fault Refusal :=
  decoderCommand selectDec .byte c s fun _ D =>
    .ok (decStep D (byteOperand c)).1 (decData (decStep D (byteOperand c)).2)

/-- DEC_CLEAR_COUNTERS (R302). -/
def execDecClearCounters (c : CommandFields) (s : State) : Host.Outcome State Fault Refusal :=
  decoderCommand selectDec .none c s fun _ D => .ok { D with frameErr := 0#32, parityErr := 0#32 } 0#32

end Sys2Proof.Machine
end

