-- ==== Sys2Proof/Machine/System.lean ====
section
/-! DEFINITION. The system commands NOP and READ_REG (R320 to R325). -/

namespace Sys2Proof.Machine

/-- The words of an oscillator by register index (R35, R323). -/
def oscRegs (o : Osc) : List (BitVec 32) :=
  [waveformCode o.wave, o.base, o.eff, o.detune, o.octave, o.depth, o.phase, o.out, o.noise]

/-- The words of an envelope generator by register index (R42, R323). -/
def egRegs (e : Eg) : List (BitVec 32) :=
  [egStateCode e.state, e.level, e.attack, e.decay, e.sustain, e.release, e.peak, e.segStart, e.segCount]

/-- The words of the filter by register index (R44, R323). -/
def vcfRegs (f : Vcf) : List (BitVec 32) :=
  [f.cutoff, f.resonance, f.modvol, f.x1, f.x2, f.y1, f.y2, f.out]

/-- The words of the amplifier by register index (R45, R323). -/
def vcaRegs (a : Vca) : List (BitVec 32) := [a.modvol, a.out]

/-- The words of the mixer by register index (R46, R323). -/
def mixRegs (m : Mix) : List (BitVec 32) := [m.out]

/-- The words of a decoder by register index, narrow fields zero-extended (R50, R322, R323). -/
def decRegs (d : Decoder) : List (BitVec 32) :=
  [decStateCode d.state, d.address.setWidth 32, d.value.setWidth 32, d.frameErr, d.parityErr]

/-- The words of a unit of a voice by register index (R323). The decoder is no unit of a voice. -/
def voiceUnitRegs (V : Voice) : UnitId → List (BitVec 32)
  | .osc .vco1 => oscRegs V.vco1
  | .osc .vco2 => oscRegs V.vco2
  | .osc .lfoVco => oscRegs V.lfoVco
  | .osc .lfoVcf => oscRegs V.lfoVcf
  | .osc .lfoVca => oscRegs V.lfoVca
  | .eg .vcf => egRegs V.egVcf
  | .eg .vca => egRegs V.egVca
  | .vcf => vcfRegs V.vcf
  | .vca => vcaRegs V.vca
  | .mix => mixRegs V.mix
  | .voice => [V.key.setWidth 32]
  | .dec => []

/-- The reply of READ_REG: the word at the index, or CONTRACT_VIOLATION past the last one (R322). -/
def readRegReply {α : Type} (regs : List (BitVec 32)) (index : BitVec 32) (unchanged : α) : Reply α :=
  match regs[index.toNat]? with
  | none => .violation
  | some w => .ok unchanged w

/-- NOP: OK whatever the other fields hold, on either port, before any other check (R321, R333). -/
def execNop (_c : CommandFields) (s : State) : Host.Outcome State Fault Refusal :=
  .next (s.respond .ok 0#32)

/-- READ_REG: unit 11 is read on CPORT, the others on APORT (R322). -/
def execReadReg (c : CommandFields) (s : State) : Host.Outcome State Fault Refusal :=
  match unitOfCode c.unit with
  | some .dec =>
      decoderCommand selectDec .regidx c s fun _ D => readRegReply (decRegs D) c.operand D
  | _ =>
      voiceCommand selectAny .regidx c s fun u V => readRegReply (voiceUnitRegs V u) c.operand V

end Sys2Proof.Machine
end

