-- ==== Sys2Proof/Machine/VoiceGraph.lean ====
section
/-! DEFINITION. The voice: note-on and note-off, the signal graph, the derived state and key, and the meanings
of the VOICE_ commands (R190 to R207). -/

namespace Sys2Proof.Machine

/-- `vel_level(vel)` (R191). -/
def velLevel (vel : Nat) : F32 := rnd32 ((vel : Rat) / 127)

/-- The ten unit steps of `voice_step(V)`, one definition each, in the order of R202. -/
def stepLfoVco (p : Params) (V : Voice) : Voice := { V with lfoVco := oscStep p V.lfoVco none }

/-- Step 2 (R202). -/
def stepVco1 (p : Params) (V : Voice) : Voice := { V with vco1 := oscStep p V.vco1 (some V.lfoVco.out) }

/-- Step 3 (R202). -/
def stepVco2 (p : Params) (V : Voice) : Voice := { V with vco2 := oscStep p V.vco2 (some V.lfoVco.out) }

/-- Step 4 (R202). -/
def stepMix (V : Voice) : Voice := { V with mix := mixStep V.mix V.vco1.out V.vco2.out }

/-- Step 5 (R202). -/
def stepLfoVcf (p : Params) (V : Voice) : Voice := { V with lfoVcf := oscStep p V.lfoVcf none }

/-- Step 6 (R202). -/
def stepEgVcf (p : Params) (V : Voice) : Voice := { V with egVcf := egStep p V.egVcf }

/-- Step 7 (R202). -/
def stepVcf (p : Params) (V : Voice) : Voice :=
  { V with vcf := vcfStep p V.vcf V.mix.out V.lfoVcf.out V.egVcf.level }

/-- Step 8 (R202). -/
def stepLfoVca (p : Params) (V : Voice) : Voice := { V with lfoVca := oscStep p V.lfoVca none }

/-- Step 9 (R202). -/
def stepEgVca (p : Params) (V : Voice) : Voice := { V with egVca := egStep p V.egVca }

/-- Step 10 (R202). -/
def stepVca (V : Voice) : Voice :=
  { V with vca := vcaStep V.vca V.vcf.out V.lfoVca.out V.egVca.level }

/-- `voice_step(V)`: the whole graph, in topological order (R202, R203). -/
def voiceStep (p : Params) (V : Voice) : Voice :=
  stepVca (stepEgVca p (stepLfoVca p (stepVcf p (stepEgVcf p (stepLfoVcf p (stepMix
    (stepVco2 p (stepVco1 p (stepLfoVco p V)))))))))

/-- The pitch of a voice's oscillator from a key: a key of 108 or more leaves it (R192). -/
def setPitch (p : Params) (key : Nat) (o : Osc) : Osc :=
  if key < 108 then ({ o with base := memReadNote p key } : Osc).refreshEff p else o

/-- The effect of an accepted note-on (R192). -/
def voiceNoteOnEffect (p : Params) (key vel : BitVec 8) (V : Voice) : Voice :=
  { V with
    key := key
    vco1 := setPitch p key.toNat V.vco1
    vco2 := setPitch p key.toNat V.vco2
    egVcf := egNoteOn V.egVcf (velLevel vel.toNat)
    egVca := egNoteOn V.egVca (velLevel vel.toNat) }

/-- The effect of note-off; KEY is unchanged (R193). -/
def voiceNoteOffEffect (V : Voice) : Voice :=
  { V with egVcf := egNoteOff V.egVcf, egVca := egNoteOff V.egVca }

/-- DATA of VOICE_STATE: 0 Idle, 1 Active, 2 Releasing, from EG_VCA's state alone (R48, R204). -/
def voiceStateData (V : Voice) : BitVec 32 :=
  match V.egVca.state with
  | .idle => 0#32
  | .release => 2#32
  | _ => 1#32

/-- DATA of VOICE_KEY: KEY, or 0xFF (NONE) while EG_VCA is Idle (R205). -/
def voiceKeyData (V : Voice) : BitVec 32 :=
  match V.egVca.state with
  | .idle => 0xFF#32
  | _ => V.key.setWidth 32

/-- VOICE_NOTE_ON (R192). -/
def execVoiceNoteOn (c : CommandFields) (s : State) : Host.Outcome State Fault Refusal :=
  voiceCommand selectVoice .keyvel c s fun _ V =>
    let key := keyOperand c
    let vel := velocityOperand c
    checked (decide (key.toNat ≤ 127) && decide (vel.toNat ≠ 0) && decide (vel.toNat ≤ 127))
      (voiceNoteOnEffect s.params key vel V)

/-- VOICE_NOTE_OFF (R193). -/
def execVoiceNoteOff (c : CommandFields) (s : State) : Host.Outcome State Fault Refusal :=
  voiceCommand selectVoice .none c s fun _ V => .ok (voiceNoteOffEffect V) 0#32

/-- VOICE_ADVANCE (R194). -/
def execVoiceAdvance (c : CommandFields) (s : State) : Host.Outcome State Fault Refusal :=
  voiceCommand selectVoice .none c s fun _ V => .ok (voiceStep s.params V) 0#32

/-- VOICE_READ: the voice's output is VCA.OUT (R49, R195). -/
def execVoiceRead (c : CommandFields) (s : State) : Host.Outcome State Fault Refusal :=
  voiceCommand selectVoice .none c s fun _ V => .ok V V.vca.out

/-- VOICE_STATE (R204). -/
def execVoiceState (c : CommandFields) (s : State) : Host.Outcome State Fault Refusal :=
  voiceCommand selectVoice .none c s fun _ V => .ok V (voiceStateData V)

/-- VOICE_KEY (R205). -/
def execVoiceKey (c : CommandFields) (s : State) : Host.Outcome State Fault Refusal :=
  voiceCommand selectVoice .none c s fun _ V => .ok V (voiceKeyData V)

end Sys2Proof.Machine
end

