-- ==== Sys2Proof/Machine/Dispatch.lean ====
section
/-! DEFINITION. One arm per command, each one call of its meaning. -/

namespace Sys2Proof.Machine

def exec (i : Instr) (s : State) : Host.Outcome State Fault Refusal :=
  match i with
  | .nop c => Sys2Proof.Machine.execNop c s
  | .oscSetWaveform c => Sys2Proof.Machine.execOscSetWaveform c s
  | .oscSetFrequency c => Sys2Proof.Machine.execOscSetFrequency c s
  | .oscSetMidiNote c => Sys2Proof.Machine.execOscSetMidiNote c s
  | .oscSetDetune c => Sys2Proof.Machine.execOscSetDetune c s
  | .oscSetOctave c => Sys2Proof.Machine.execOscSetOctave c s
  | .oscSetModDepth c => Sys2Proof.Machine.execOscSetModDepth c s
  | .oscSetSeed c => Sys2Proof.Machine.execOscSetSeed c s
  | .oscAdvance c => Sys2Proof.Machine.execOscAdvance c s
  | .oscRead c => Sys2Proof.Machine.execOscRead c s
  | .egSetAttack c => Sys2Proof.Machine.execEgSetAttack c s
  | .egSetDecay c => Sys2Proof.Machine.execEgSetDecay c s
  | .egSetSustain c => Sys2Proof.Machine.execEgSetSustain c s
  | .egSetRelease c => Sys2Proof.Machine.execEgSetRelease c s
  | .egNoteOn c => Sys2Proof.Machine.execEgNoteOn c s
  | .egNoteOff c => Sys2Proof.Machine.execEgNoteOff c s
  | .egAdvance c => Sys2Proof.Machine.execEgAdvance c s
  | .egRead c => Sys2Proof.Machine.execEgRead c s
  | .vcfSetCutoff c => Sys2Proof.Machine.execVcfSetCutoff c s
  | .vcfSetResonance c => Sys2Proof.Machine.execVcfSetResonance c s
  | .vcfSetModVolume c => Sys2Proof.Machine.execVcfSetModVolume c s
  | .vcfAdvance c => Sys2Proof.Machine.execVcfAdvance c s
  | .vcfRead c => Sys2Proof.Machine.execVcfRead c s
  | .vcaSetModVolume c => Sys2Proof.Machine.execVcaSetModVolume c s
  | .vcaAdvance c => Sys2Proof.Machine.execVcaAdvance c s
  | .vcaRead c => Sys2Proof.Machine.execVcaRead c s
  | .mixAdvance c => Sys2Proof.Machine.execMixAdvance c s
  | .mixRead c => Sys2Proof.Machine.execMixRead c s
  | .voiceNoteOn c => Sys2Proof.Machine.execVoiceNoteOn c s
  | .voiceNoteOff c => Sys2Proof.Machine.execVoiceNoteOff c s
  | .voiceAdvance c => Sys2Proof.Machine.execVoiceAdvance c s
  | .voiceRead c => Sys2Proof.Machine.execVoiceRead c s
  | .voiceState c => Sys2Proof.Machine.execVoiceState c s
  | .voiceKey c => Sys2Proof.Machine.execVoiceKey c s
  | .readReg c => Sys2Proof.Machine.execReadReg c s
  | .decByte c => Sys2Proof.Machine.execDecByte c s
  | .decClearCounters c => Sys2Proof.Machine.execDecClearCounters c s

end Sys2Proof.Machine
end

