-- ==== Sys2Proof/Decode.lean ====
section
/-! DEFINITION. Decoding a 64-bit command word to its opcode row, and encoding (R101, R110, R114).
The decoder needs OPC only (R114): every assigned opcode decodes, whatever the other fields hold, because
illegal units, ports, instances and reserved bits are answered by the command itself in the order of R333.
An unassigned opcode is refused by name; the step answers it with ILLEGAL_OPCODE (R112). -/

namespace Sys2Proof

/-- Why a command word is not a command. -/
inductive DecodeError where
  /-- OPC is unassigned (R111). The step answers STATUS ILLEGAL_OPCODE, so nothing stops. Safe. -/
  | illegalOpcode (opc : BitVec 8)
deriving DecidableEq, Repr

/-- OPC, bits 63:56 (R101). -/
def opcodeField (w : CommandWord) : BitVec 8 := w.extractLsb' 56 8

/-- INST, UNIT, RSV and OPERAND: bits 55:48, 47:44, 43:32 and 31:0 (R101). -/
def commandFields (w : CommandWord) : CommandFields :=
  { inst := w.extractLsb' 48 8
    unit := w.extractLsb' 44 4
    rsv := w.extractLsb' 32 12
    operand := w.extractLsb' 0 32 }

/-- The opcode map of R110. -/
def decode (w : CommandWord) : Except DecodeError Instr :=
  match opcodeField w with
  | 0x00#8 => .ok (.nop (commandFields w))
  | 0x01#8 => .ok (.oscSetWaveform (commandFields w))
  | 0x02#8 => .ok (.oscSetFrequency (commandFields w))
  | 0x03#8 => .ok (.oscSetMidiNote (commandFields w))
  | 0x04#8 => .ok (.oscSetDetune (commandFields w))
  | 0x05#8 => .ok (.oscSetOctave (commandFields w))
  | 0x06#8 => .ok (.oscSetModDepth (commandFields w))
  | 0x07#8 => .ok (.oscSetSeed (commandFields w))
  | 0x08#8 => .ok (.oscAdvance (commandFields w))
  | 0x09#8 => .ok (.oscRead (commandFields w))
  | 0x10#8 => .ok (.egSetAttack (commandFields w))
  | 0x11#8 => .ok (.egSetDecay (commandFields w))
  | 0x12#8 => .ok (.egSetSustain (commandFields w))
  | 0x13#8 => .ok (.egSetRelease (commandFields w))
  | 0x14#8 => .ok (.egNoteOn (commandFields w))
  | 0x15#8 => .ok (.egNoteOff (commandFields w))
  | 0x16#8 => .ok (.egAdvance (commandFields w))
  | 0x17#8 => .ok (.egRead (commandFields w))
  | 0x20#8 => .ok (.vcfSetCutoff (commandFields w))
  | 0x21#8 => .ok (.vcfSetResonance (commandFields w))
  | 0x22#8 => .ok (.vcfSetModVolume (commandFields w))
  | 0x23#8 => .ok (.vcfAdvance (commandFields w))
  | 0x24#8 => .ok (.vcfRead (commandFields w))
  | 0x28#8 => .ok (.vcaSetModVolume (commandFields w))
  | 0x29#8 => .ok (.vcaAdvance (commandFields w))
  | 0x2A#8 => .ok (.vcaRead (commandFields w))
  | 0x30#8 => .ok (.mixAdvance (commandFields w))
  | 0x31#8 => .ok (.mixRead (commandFields w))
  | 0x38#8 => .ok (.voiceNoteOn (commandFields w))
  | 0x39#8 => .ok (.voiceNoteOff (commandFields w))
  | 0x3A#8 => .ok (.voiceAdvance (commandFields w))
  | 0x3B#8 => .ok (.voiceRead (commandFields w))
  | 0x3C#8 => .ok (.voiceState (commandFields w))
  | 0x3D#8 => .ok (.voiceKey (commandFields w))
  | 0x3F#8 => .ok (.readReg (commandFields w))
  | 0x40#8 => .ok (.decByte (commandFields w))
  | 0x41#8 => .ok (.decClearCounters (commandFields w))
  | opc => .error (.illegalOpcode opc)

/-- The host's view of the decoder: the low `nbits` bits of `w`, every higher bit 0. -/
def decodeTableWord (nbits w : Nat) : Option Instr :=
  (decode (BitVec.ofNat 64 (w % 2 ^ nbits))).toOption

/-- The OPC value of each command (R110). -/
def Instr.opcode : Instr → BitVec 8
  | .nop _ => 0x00#8
  | .oscSetWaveform _ => 0x01#8
  | .oscSetFrequency _ => 0x02#8
  | .oscSetMidiNote _ => 0x03#8
  | .oscSetDetune _ => 0x04#8
  | .oscSetOctave _ => 0x05#8
  | .oscSetModDepth _ => 0x06#8
  | .oscSetSeed _ => 0x07#8
  | .oscAdvance _ => 0x08#8
  | .oscRead _ => 0x09#8
  | .egSetAttack _ => 0x10#8
  | .egSetDecay _ => 0x11#8
  | .egSetSustain _ => 0x12#8
  | .egSetRelease _ => 0x13#8
  | .egNoteOn _ => 0x14#8
  | .egNoteOff _ => 0x15#8
  | .egAdvance _ => 0x16#8
  | .egRead _ => 0x17#8
  | .vcfSetCutoff _ => 0x20#8
  | .vcfSetResonance _ => 0x21#8
  | .vcfSetModVolume _ => 0x22#8
  | .vcfAdvance _ => 0x23#8
  | .vcfRead _ => 0x24#8
  | .vcaSetModVolume _ => 0x28#8
  | .vcaAdvance _ => 0x29#8
  | .vcaRead _ => 0x2A#8
  | .mixAdvance _ => 0x30#8
  | .mixRead _ => 0x31#8
  | .voiceNoteOn _ => 0x38#8
  | .voiceNoteOff _ => 0x39#8
  | .voiceAdvance _ => 0x3A#8
  | .voiceRead _ => 0x3B#8
  | .voiceState _ => 0x3C#8
  | .voiceKey _ => 0x3D#8
  | .readReg _ => 0x3F#8
  | .decByte _ => 0x40#8
  | .decClearCounters _ => 0x41#8

/-- The fields of a command beside OPC. -/
def Instr.fields : Instr → CommandFields
  | .nop c => c
  | .oscSetWaveform c => c
  | .oscSetFrequency c => c
  | .oscSetMidiNote c => c
  | .oscSetDetune c => c
  | .oscSetOctave c => c
  | .oscSetModDepth c => c
  | .oscSetSeed c => c
  | .oscAdvance c => c
  | .oscRead c => c
  | .egSetAttack c => c
  | .egSetDecay c => c
  | .egSetSustain c => c
  | .egSetRelease c => c
  | .egNoteOn c => c
  | .egNoteOff c => c
  | .egAdvance c => c
  | .egRead c => c
  | .vcfSetCutoff c => c
  | .vcfSetResonance c => c
  | .vcfSetModVolume c => c
  | .vcfAdvance c => c
  | .vcfRead c => c
  | .vcaSetModVolume c => c
  | .vcaAdvance c => c
  | .vcaRead c => c
  | .mixAdvance c => c
  | .mixRead c => c
  | .voiceNoteOn c => c
  | .voiceNoteOff c => c
  | .voiceAdvance c => c
  | .voiceRead c => c
  | .voiceState c => c
  | .voiceKey c => c
  | .readReg c => c
  | .decByte c => c
  | .decClearCounters c => c

/-- `{OPC, INST, UNIT, RSV, OPERAND}` (R101). -/
def packWord (opc : BitVec 8) (c : CommandFields) : CommandWord :=
  opc ++ c.inst ++ c.unit ++ c.rsv ++ c.operand

/-- The command word of an instruction (R101, R110). -/
def encode (i : Instr) : CommandWord := packWord i.opcode i.fields

end Sys2Proof
end

