-- ==== Sys2Proof/Machine/Ports.lean ====
section
/-! DEFINITION. The ports: taking the next host interaction, the host's reset, an unassigned opcode, and placing
a command word for the next step (R71, R72, R112, R360, R382). -/

namespace Sys2Proof.Machine

/-- Accept a command on a port: it leaves the list of pending interactions (R71). -/
def State.accept (s : State) (p : Port) (rest : List HostInput) : State :=
  { s with port := p, inputs := rest }

/-- A command word with an unassigned opcode: ILLEGAL_OPCODE, no state written (R112, R333). -/
def rejectUnassigned (s : State) : Host.Outcome State Fault Refusal := raise .illegalOpcode s

/-- The host asserts reset: every field of every instance takes its reset value and the event outputs are
emptied; parameters and ROMs are unchanged (R360). The responses already given and the interactions still to
come are the host's (log entry 4). -/
def hostReset (s : State) (rest : List HostInput) : State :=
  { s with
    voices := resetVoices s.params s.voices.length
    decoders := resetDecoders s.decoders.length
    inputs := rest }

/-- Nothing is sent, so nothing happens (R73, R382; log entry 2). -/
def idleStep (s : State) : Host.Outcome State Fault Refusal := .next s

/-- The port a command word belongs to: CPORT for the decoder commands and for READ_REG of unit 11, APORT
for the rest (R110). -/
def portOfWord (w : CommandWord) : Port :=
  match decode w with
  | .ok (.decByte _) => .cport
  | .ok (.decClearCounters _) => .cport
  | .ok (.readReg c) =>
    match unitOfCode c.unit with
    | some u => unitPort u
    | none => .aport
  | _ => .aport

/-- Place a command word before every pending interaction, on the port it belongs to. -/
def State.placeCommand (s : State) (w : CommandWord) : State :=
  { s with inputs := .command (portOfWord w) w :: s.inputs }

end Sys2Proof.Machine
end

