-- ==== Sys2Proof/Machine/Step.lean ====
section
/-! DEFINITION. One step: take the next host interaction and carry it out (R71, R72, R382). -/

namespace Sys2Proof.Machine

/-- One step. A command is decoded and executed completely; an unassigned opcode is answered; the reset event
resets; with nothing pending nothing happens. -/
def step (s : State) : Host.Outcome State Fault Refusal :=
  match s.inputs with
  | [] => idleStep s
  | .reset :: rest => .next (hostReset s rest)
  | .command p w :: rest =>
    match decode w with
    | .ok i => exec i (s.accept p rest)
    | .error _ => rejectUnassigned (s.accept p rest)

/-- `s` with the low `nbits` bits of `w` as the next command, on the port it belongs to (log entry 13). -/
def State.withFetchWord (s : State) (nbits w : Nat) : State :=
  s.placeCommand (BitVec.ofNat 64 (w % 2 ^ nbits))

end Sys2Proof.Machine
end

