-- ==== Sys2Proof/Machine/Pseudo.lean ====
section
/-! DEFINITION. The pseudo-instructions of R123 and their expansions into commands (R210, R211). -/

namespace Sys2Proof.Machine

/-- The fields of a well-formed command to a unit. -/
def fieldsFor (inst : BitVec 8) (u : UnitId) (operand : BitVec 32) : CommandFields :=
  { inst, unit := unitCode u, rsv := 0#12, operand }

/-- The normalised values a patch holds, in the order of R211 (R212). -/
structure Patch where
  lfoVcoWave : BitVec 32
  lfoVcoFreq : F32
  lfoVcfWave : BitVec 32
  lfoVcfFreq : F32
  lfoVcaWave : BitVec 32
  lfoVcaFreq : F32
  vco1Wave : BitVec 32
  vco1Depth : F32
  vco1Detune : F32
  vco2Wave : BitVec 32
  vco2Depth : F32
  vco2Detune : F32
  vcfCutoff : F32
  vcfResonance : F32
  vcfModvol : F32
  egfAttack : F32
  egfDecay : F32
  egfSustain : F32
  egfRelease : F32
  egaAttack : F32
  egaDecay : F32
  egaSustain : F32
  egaRelease : F32
  vcaModvol : F32
deriving DecidableEq, Repr

/-- `SAMPLE V<v>`: the second response is the sample (R123). -/
def expandSample (v : BitVec 8) : List Instr :=
  [.voiceAdvance (fieldsFor v .voice 0#32), .voiceRead (fieldsFor v .voice 0#32)]

/-- `APPLY_PATCH V<v>, P`: the 24 setters of R211 in their order. -/
def expandApplyPatch (v : BitVec 8) (P : Patch) : List Instr :=
  [.oscSetWaveform (fieldsFor v (.osc .lfoVco) P.lfoVcoWave),
   .oscSetFrequency (fieldsFor v (.osc .lfoVco) P.lfoVcoFreq),
   .oscSetWaveform (fieldsFor v (.osc .lfoVcf) P.lfoVcfWave),
   .oscSetFrequency (fieldsFor v (.osc .lfoVcf) P.lfoVcfFreq),
   .oscSetWaveform (fieldsFor v (.osc .lfoVca) P.lfoVcaWave),
   .oscSetFrequency (fieldsFor v (.osc .lfoVca) P.lfoVcaFreq),
   .oscSetWaveform (fieldsFor v (.osc .vco1) P.vco1Wave),
   .oscSetModDepth (fieldsFor v (.osc .vco1) P.vco1Depth),
   .oscSetDetune (fieldsFor v (.osc .vco1) P.vco1Detune),
   .oscSetWaveform (fieldsFor v (.osc .vco2) P.vco2Wave),
   .oscSetModDepth (fieldsFor v (.osc .vco2) P.vco2Depth),
   .oscSetDetune (fieldsFor v (.osc .vco2) P.vco2Detune),
   .vcfSetCutoff (fieldsFor v .vcf P.vcfCutoff),
   .vcfSetResonance (fieldsFor v .vcf P.vcfResonance),
   .vcfSetModVolume (fieldsFor v .vcf P.vcfModvol),
   .egSetAttack (fieldsFor v (.eg .vcf) P.egfAttack),
   .egSetDecay (fieldsFor v (.eg .vcf) P.egfDecay),
   .egSetSustain (fieldsFor v (.eg .vcf) P.egfSustain),
   .egSetRelease (fieldsFor v (.eg .vcf) P.egfRelease),
   .egSetAttack (fieldsFor v (.eg .vca) P.egaAttack),
   .egSetDecay (fieldsFor v (.eg .vca) P.egaDecay),
   .egSetSustain (fieldsFor v (.eg .vca) P.egaSustain),
   .egSetRelease (fieldsFor v (.eg .vca) P.egaRelease),
   .vcaSetModVolume (fieldsFor v .vca P.vcaModvol)]

/-- The stop byte of a message: `0xC0 OR parity16(value XOR zext_16(address))` (R123, R291). -/
def stopByte (a : BitVec 7) (value : BitVec 14) : BitVec 8 :=
  0xC0#8 ||| (if messageParity a value then 1#8 else 0#8)

/-- The five bytes of a message on the serial wire (R78, R291). -/
def messageBytes (a : BitVec 7) (value : BitVec 14) : List (BitVec 8) :=
  [0x80#8, a.setWidth 8, (value.extractLsb' 7 7).setWidth 8, (value.extractLsb' 0 7).setWidth 8,
   stopByte a value]

/-- `DEC_MESSAGE D<d>, a, val`: one DEC_BYTE per byte of the message (R123). -/
def expandDecMessage (d : BitVec 8) (a : BitVec 7) (value : BitVec 14) : List Instr :=
  (messageBytes a value).map fun b => .decByte (fieldsFor d .dec (b.setWidth 32))

/-- `OSC_SET_NOTE V<v>.<OSC>, n`: an alias spelling (R123). -/
def expandOscSetNote (v : BitVec 8) (o : OscId) (n : BitVec 32) : List Instr :=
  [.oscSetMidiNote (fieldsFor v (.osc o) n)]

/-- An expansion as host interactions, issued in order on one port (R123). -/
def issueOn (p : Port) (is : List Instr) : List HostInput := is.map fun i => .command p (encode i)

end Sys2Proof.Machine
end

