-- ==== Sys2Proof/Safety.lean ====
section
/-! DEFINITION. The terms that claims use: the requirements on the parameters (R8, R24, R86, R90, R252), the
invariants of 10_state.md, and what it means that a command passes the common checks of R333. -/

namespace Sys2Proof.Machine

/-- SINE_TABLE requirement (R86). -/
def sineTableLegal (t : List F32) : Bool :=
  t.length == 360 && t.all (fun w => f32Within w (-1) 1)
    && t[0]? == some plusZero && t[90]? == some plusOne
    && ((t[180]?).map fun w => decide (val w = 0)) == some true && t[270]? == some minusOne

/-- Values strictly rising along a list of finite words. -/
def valuesRise : List F32 → Bool
  | a :: b :: rest => decide (val a < val b) && valuesRise (b :: rest)
  | _ => true

/-- NOTE_TABLE requirement (R90). -/
def noteTableLegal (t : List F32) : Bool :=
  t.length == 108 && t.all f32FinitePositive && valuesRise t && t[69]? == some hz440
    && ((t[0]?).map fun w => roundHalfAway (val w * 10000)) == some 81758

/-- Every reset seed of a block of at most 256 voices is nonzero (R8). -/
def seedsLegal (p : Params) : Bool :=
  (List.range 256).all fun v => (List.range 5).all fun u => noiseSeedReset p v u != 0#32

/-- EXP2(+0.0) = EXP2(-0.0) = 1.0, the part of R24 that reset rests on. -/
def exp2AtZero (p : Params) : Bool := exp2Of p 0x00000000#32 == plusOne && exp2Of p 0x80000000#32 == plusOne

/-- FC_MIN and FC_MAX (R8). -/
def cutoffBoundsLegal (p : Params) : Bool :=
  f32FinitePositive p.fcMin && f32Finite p.fcMax && decide (val p.fcMin ≤ val p.fcMax)
    && decide (val p.fcMax < (p.sampleRate : Rat) / 2)

/-- The requirements of R8 that are decided by evaluation. The two on functions of words, R24 and R252, are
`Exp2Legal` and `BiquadLegal`; all of them together are `ParamsLegal`. -/
def paramsLegal (p : Params) : Bool :=
  decide (1 ≤ p.sampleRate) && decide (p.sampleRate ≤ 2 ^ 24) && seedsLegal p && exp2AtZero p
    && sineTableLegal p.sineTable && noteTableLegal p.noteTable && cutoffBoundsLegal p

/-- The EXP2 requirement (R24), on the words it is a function of: those with value in [-0.5, 0.5]. -/
def Exp2Legal (p : Params) : Prop :=
  exp2Of p 0x00000000#32 = plusOne ∧ exp2Of p 0x80000000#32 = plusOne ∧
  (∀ x, f32Within x (-1 / 2) (1 / 2) = true →
    f32FinitePositive (exp2Of p x) = true ∧
    val 0x3F3504F3#32 ≤ val (exp2Of p x) ∧ val (exp2Of p x) ≤ val 0x3FB504F3#32) ∧
  (∀ x y, f32Within x (-1 / 2) (1 / 2) = true → f32Within y (-1 / 2) (1 / 2) = true → val x ≤ val y →
    val (exp2Of p x) ≤ val (exp2Of p y))

/-- Five finite coefficients (R252). -/
def coeffsFinite (k : BiquadCoeffs) : Bool :=
  f32Finite k.b0 && f32Finite k.b1 && f32Finite k.b2 && f32Finite k.a1 && f32Finite k.a2

/-- The BIQUAD_COEFFS requirement (R252): finite coefficients for every cutoff in FC_MIN..FC_MAX and every resonance
in [0, 1]. That a substitute should keep the section stable is R252's advice, not a requirement. -/
def BiquadLegal (p : Params) : Prop :=
  ∀ fc r : F32, f32Within fc (val p.fcMin) (val p.fcMax) = true → f32Within r 0 1 = true →
    coeffsFinite (biquadOf p fc r) = true

/-- All the legal values of R8, but for the instance counts (see stateOk). -/
def ParamsLegal (p : Params) : Prop := paramsLegal p = true ∧ Exp2Legal p ∧ BiquadLegal p

/-- The field invariants of an oscillator (R35, R37, R39, R40). -/
def oscOk (p : Params) (o : Osc) : Bool :=
  f32FinitePositive o.base && o.eff == effOf p o.base o.detune o.octave
    && f32Within o.detune (-1 / 2) (1 / 2)
    && decide (-3 ≤ o.octave.toInt) && decide (o.octave.toInt ≤ 2)
    && f32Within o.depth 0 1 && decide (o.phase.toNat < 2 ^ 32 - 1)
    && f32Within o.out (-1) 1 && o.noise != 0#32

/-- The field invariants of an envelope generator (R42, R236). -/
def egOk (e : Eg) : Bool :=
  f32Within e.level 0 1 && f32FiniteNonneg e.attack && f32FiniteNonneg e.decay
    && f32Within e.sustain 0 1 && f32FiniteNonneg e.release
    && f32Within e.peak 0 1 && f32Within e.segStart 0 1

/-- The field invariants of the filter (R44, R262). -/
def vcfOk (f : Vcf) : Bool :=
  f32FinitePositive f.cutoff && f32Within f.resonance 0 1 && f32Within f.modvol 0 1
    && f32Within f.x1 (-1) 1 && f32Within f.x2 (-1) 1 && f32Within f.y1 (-1) 1 && f32Within f.y2 (-1) 1
    && f32Within f.out (-1) 1

/-- The field invariants of a voice (R35 to R47, R275, R283). -/
def voiceOk (p : Params) (V : Voice) : Bool :=
  oscOk p V.vco1 && oscOk p V.vco2 && oscOk p V.lfoVco && oscOk p V.lfoVcf && oscOk p V.lfoVca
    && egOk V.egVcf && egOk V.egVca && vcfOk V.vcf
    && f32Within V.vca.modvol 0 1 && f32Within V.vca.out (-1) 1 && f32Within V.mix.out (-1) 1
    && decide (V.key.toNat ≤ 127)

/-- The invariant of the block: legal parameters and instance counts, and every voice within the legal values
of the tables of 10_state.md. A decoder's fields are legal by their widths. -/
def stateOk (s : State) : Bool :=
  paramsLegal s.params
    && decide (1 ≤ s.voices.length) && decide (s.voices.length ≤ 256)
    && decide (1 ≤ s.decoders.length) && decide (s.decoders.length ≤ 256)
    && s.voices.all (voiceOk s.params)

/-- The command reaches unit u of voice V: it passes the checks of R333 before the one for reserved bits. -/
def VoiceReached (u : UnitId) (c : CommandFields) (s : State) (V : Voice) : Prop :=
  unitOfCode c.unit = some u ∧ u ≠ .dec ∧ s.port = .aport ∧ s.voices[c.inst.toNat]? = some V

/-- The command reaches decoder D: it passes the checks of R333 before the one for reserved bits. -/
def DecoderReached (c : CommandFields) (s : State) (D : Decoder) : Prop :=
  unitOfCode c.unit = some .dec ∧ s.port = .cport ∧ s.decoders[c.inst.toNat]? = some D

/-- The word has a finite value with a given property. A NaN and an infinity have none (R16, R105). -/
def FiniteWith (w : F32) (legal : Rat → Prop) : Prop := ∃ q, f32Value w = .finite q ∧ legal q

/-- The state after a voice command with a given new voice and response: nothing else changes. -/
def State.voiceAnswered (s : State) (c : CommandFields) (V : Voice) (status : Status) (data : BitVec 32) : State :=
  { s with voices := s.voices.set c.inst.toNat V, aportOut := s.aportOut ++ [{ status, data }] }

/-- The state after a decoder command with a given new decoder and response: nothing else changes. -/
def State.decoderAnswered (s : State) (c : CommandFields) (D : Decoder) (status : Status) (data : BitVec 32) :
    State :=
  { s with decoders := s.decoders.set c.inst.toNat D, cportOut := s.cportOut ++ [{ status, data }] }

/-- The responses given on a port. -/
def State.responsesOn (s : State) : Port → List Response
  | .aport => s.aportOut
  | .cport => s.cportOut

/-- The state with one more response on a port: nothing else changes. -/
def State.withResponse (s : State) (p : Port) (r : Response) : State :=
  match p with
  | .aport => { s with aportOut := s.aportOut ++ [r] }
  | .cport => { s with cportOut := s.cportOut ++ [r] }

/-- The state after a rejection: one response with DATA 0 on the command's port, nothing else (R334). -/
def State.rejected (s : State) (status : Status) : State := s.withResponse s.port ⟨status, 0#32⟩

/-- The commands that only read, and NOP (R81). -/
def isRead : Instr → Bool
  | .nop _ | .oscRead _ | .egRead _ | .vcfRead _ | .vcaRead _ | .mixRead _ | .voiceRead _ | .voiceState _
  | .voiceKey _ | .readReg _ => true
  | _ => false

/-- The setters, the note commands and DEC_CLEAR_COUNTERS, which R81 calls idempotent. -/
def isIdempotentWrite : Instr → Bool
  | .oscSetWaveform _ | .oscSetFrequency _ | .oscSetMidiNote _ | .oscSetDetune _ | .oscSetOctave _
  | .oscSetModDepth _ | .oscSetSeed _ | .egSetAttack _ | .egSetDecay _ | .egSetSustain _ | .egSetRelease _
  | .egNoteOn _ | .egNoteOff _ | .vcfSetCutoff _ | .vcfSetResonance _ | .vcfSetModVolume _
  | .vcaSetModVolume _ | .voiceNoteOn _ | .voiceNoteOff _ | .decClearCounters _ => true
  | _ => false

/-- A voice that sounds nothing: EG_VCA is Idle, or in a release from level +0.0, and its LEVEL and VCA.OUT are
+0.0 (R361, R231, R235, R274). -/
def VoiceSilent (V : Voice) : Prop :=
  (V.egVca.state = .idle ∨ (V.egVca.state = .release ∧ V.egVca.segStart = plusZero)) ∧
  V.egVca.level = plusZero ∧ V.vca.out = plusZero

/-- The commands that can start the amplifier envelope of voice v: VOICE_NOTE_ON and EG_NOTE_ON of EG_VCA. -/
def startsVoice (v : BitVec 8) : Instr → Bool
  | .voiceNoteOn c => c.inst == v
  | .egNoteOn c => c.inst == v && unitOfCode c.unit == some (.eg .vca)
  | _ => false

/-- The host interaction is a word of a command that can start voice v. -/
def inputStarts (v : BitVec 8) : HostInput → Bool
  | .command _ w =>
    match decode w with
    | .ok i => startsVoice v i
    | .error _ => false
  | .reset => false

/-- The opcodes R111 lists as unassigned. -/
def unassignedOpcode (opc : Nat) : Prop :=
  (0x0A ≤ opc ∧ opc ≤ 0x0F) ∨ (0x18 ≤ opc ∧ opc ≤ 0x1F) ∨ (0x25 ≤ opc ∧ opc ≤ 0x27) ∨
  (0x2B ≤ opc ∧ opc ≤ 0x2F) ∨ (0x32 ≤ opc ∧ opc ≤ 0x37) ∨ opc = 0x3E ∨ (0x42 ≤ opc ∧ opc ≤ 0xFF)

/-- The pending interactions on one port, in order. The reset event belongs to neither port. -/
def inputsOn (p : Port) (l : List HostInput) : List HostInput :=
  l.filter fun
    | .command q _ => q == p
    | .reset => false

/-- Every pending interaction is a command. -/
def onlyCommands (l : List HostInput) : Prop := ∀ x ∈ l, x ≠ .reset

end Sys2Proof.Machine
end

