-- ==== Sys2Proof/Certificates/Slice0/Obligations.lean ====
section
/-! DEFINITION. The statements for the provers. Each docstring says which part of the spec it formalises. -/

open Sys2Proof Sys2Proof.Machine

/-- For every instruction of all 37 constructors, with every field (INST, UNIT, RSV, OPERAND) at every value, decode
of encode is the instruction itself. Derived from spec/30_encoding.md section 1, spec/30_encoding.md section 3. -/
def Obligations.DecodeEncode : Prop :=
  ∀ i : Instr, decode (encode i) = .ok i

/-- Every 64-bit word that decodes to an instruction is the encoding of that instruction, so no bit of a command word
is dropped. Derived from spec/30_encoding.md section 1, spec/30_encoding.md section 3. -/
def Obligations.EncodeDecode : Prop :=
  ∀ (w : CommandWord) (i : Instr), decode w = .ok i → encode i = w

/-- The word with OPC in bits 63:56, INST in 55:48, UNIT in 47:44, RSV in 43:32 and OPERAND in 31:0 decodes, for each
of the 37 opcodes of R110, to its command with those fields. A 64-bit word fails to decode if and only if its OPC
field is in one of the ranges 0x0A-0x0F, 0x18-0x1F, 0x25-0x27, 0x2B-0x2F, 0x32-0x37, 0x3E, 0x42-0xFF. Derived from
R101, R110, R111. -/
def Obligations.UnassignedOpcodes : Prop :=
  (∀ c : CommandFields,
    ∀ x ∈ ([(0x00#8, .nop c), (0x01#8, .oscSetWaveform c), (0x02#8, .oscSetFrequency c),
        (0x03#8, .oscSetMidiNote c), (0x04#8, .oscSetDetune c), (0x05#8, .oscSetOctave c),
        (0x06#8, .oscSetModDepth c), (0x07#8, .oscSetSeed c), (0x08#8, .oscAdvance c),
        (0x09#8, .oscRead c), (0x10#8, .egSetAttack c), (0x11#8, .egSetDecay c),
        (0x12#8, .egSetSustain c), (0x13#8, .egSetRelease c), (0x14#8, .egNoteOn c),
        (0x15#8, .egNoteOff c), (0x16#8, .egAdvance c), (0x17#8, .egRead c),
        (0x20#8, .vcfSetCutoff c), (0x21#8, .vcfSetResonance c), (0x22#8, .vcfSetModVolume c),
        (0x23#8, .vcfAdvance c), (0x24#8, .vcfRead c), (0x28#8, .vcaSetModVolume c),
        (0x29#8, .vcaAdvance c), (0x2A#8, .vcaRead c), (0x30#8, .mixAdvance c),
        (0x31#8, .mixRead c), (0x38#8, .voiceNoteOn c), (0x39#8, .voiceNoteOff c),
        (0x3A#8, .voiceAdvance c), (0x3B#8, .voiceRead c), (0x3C#8, .voiceState c),
        (0x3D#8, .voiceKey c), (0x3F#8, .readReg c), (0x40#8, .decByte c),
        (0x41#8, .decClearCounters c)] : List (BitVec 8 × Instr)),
      decode ((x.1 ++ c.inst ++ c.unit ++ c.rsv ++ c.operand : BitVec (8 + 8 + 4 + 12 + 32)) : BitVec 64) = .ok x.2) ∧
  ∀ w : CommandWord, (∃ e, decode w = .error e) ↔ unassignedOpcode (opcodeField w).toNat

/-- The words of OSC_SET_FREQUENCY V0.VCO1, 440.0, of VOICE_NOTE_ON V0.VOICE, 60, 100, of DEC_BYTE D0, 0x80 and of
READ_REG V0.VCO2, PHASE decode to those commands, and those commands encode to those words. States R115. -/
def Obligations.WorkedEncodings : Prop :=
  ∀ x ∈ ([(0x0200000043DC0000#64, .oscSetFrequency ⟨0#8, 0#4, 0#12, 0x43DC0000#32⟩),
      (0x3800A0000000643C#64, .voiceNoteOn ⟨0#8, 10#4, 0#12, 0x0000643C#32⟩),
      (0x4000B00000000080#64, .decByte ⟨0#8, 11#4, 0#12, 0x00000080#32⟩),
      (0x3F00100000000006#64, .readReg ⟨0#8, 1#4, 0#12, 0x00000006#32⟩)] : List (CommandWord × Instr)),
    decode x.1 = .ok x.2 ∧ encode x.2 = x.1

/-- When the next host interaction is a command word w on port p and w decodes to i, the step is exec of i in the
state whose command port is p and whose remaining interactions are the rest. The list of pending interactions and
the port latch are the model's own (log entries 1 and 3). Derived from spec/20_memory.md section 1. -/
def Obligations.StepRunsDecoded : Prop :=
  ∀ (s : State) (p : Port) (w : CommandWord) (rest : List HostInput) (i : Instr),
    s.inputs = .command p w :: rest → decode w = .ok i →
    step s = exec i { s with port := p, inputs := rest }

/-- When the next host interaction is the reset event, the step sets every voice and every decoder to its reset value
and leaves the parameters, the instance counts and the responses already given; with no interaction pending the
step leaves the state as it is. That responses and later interactions outlive a reset, and that an idle step
answers next, are the model's choices (log entries 2 and 4). Derived from spec/70_reset_and_hazards.md section 1,
spec/70_reset_and_hazards.md section 4. -/
def Obligations.HostEvents : Prop :=
  (∀ (s : State) (rest : List HostInput), s.inputs = .reset :: rest →
    step s = .next
      { s with
        voices := (List.range s.voices.length).map (resetVoice s.params)
        decoders := List.replicate s.decoders.length resetDecoder
        inputs := rest }) ∧
  (∀ s : State, s.inputs = [] → step s = .next s)

/-- After reset every oscillator of voice v with unit code u is Sine, BASE = EFF = 440.0, DETUNE, DEPTH, OUT +0.0,
OCTAVE 0, PHASE 0, NOISE = NOISE_SEED_RESET(v, u); both envelope generators are Idle with SUSTAIN 1.0 and all else
0; CUTOFF is 20000.0 and the rest of the filter, the amplifier and the mixer +0.0; KEY is 0 (VOICE_KEY reads 0xFF,
VOICE_STATE reads 0); every decoder is in Start with zero accumulators and counters and no event. States R361. -/
def Obligations.ResetState : Prop :=
  ∀ (p : Params) (n m v d : Nat), v < n → d < m →
    let osc : Nat → Osc := fun u =>
      { wave := .sine, base := 0x43DC0000#32, eff := 0x43DC0000#32, detune := 0#32, octave := 0#32, depth := 0#32,
        phase := 0#32, out := 0#32, noise := noiseSeedReset p v u }
    let eg : Eg :=
      { state := .idle, level := 0#32, attack := 0#32, decay := 0#32, sustain := 0x3F800000#32, release := 0#32,
        peak := 0#32, segStart := 0#32, segCount := 0#32 }
    let V : Voice :=
      { vco1 := osc 0, vco2 := osc 1, lfoVco := osc 2, lfoVcf := osc 3, lfoVca := osc 4, egVcf := eg, egVca := eg,
        vcf :=
          { cutoff := 0x469C4000#32, resonance := 0#32, modvol := 0#32, x1 := 0#32, x2 := 0#32, y1 := 0#32,
            y2 := 0#32, out := 0#32 },
        vca := { modvol := 0#32, out := 0#32 }, mix := { out := 0#32 }, key := 0#8 }
    (State.resetWith p n m).voices.length = n ∧ (State.resetWith p n m).decoders.length = m ∧
    (State.resetWith p n m).voices[v]? = some V ∧ voiceKeyData V = 0xFF#32 ∧ voiceStateData V = 0#32 ∧
    (State.resetWith p n m).decoders[d]? =
      some { state := .start, address := 0#7, value := 0#14, frameErr := 0#32, parityErr := 0#32, events := [] }

/-- For every state and every command word on either port, the step answers a next state: the command is taken from
the pending interactions, exactly one response is added on its port and none on the other, and the DATA of a
response whose STATUS is not OK is 0. Derived from spec/20_memory.md section 1, spec/30_encoding.md section 1. -/
def Obligations.CommandAlwaysAnswers : Prop :=
  ∀ (s : State) (p : Port) (w : CommandWord) (rest : List HostInput), s.inputs = .command p w :: rest →
    ∃ (t : State) (r : Response),
      step s = .next t ∧ t.inputs = rest ∧ t.port = p ∧
      t.responsesOn p = s.responsesOn p ++ [r] ∧ (∀ q, q ≠ p → t.responsesOn q = s.responsesOn q) ∧
      (r.status ≠ .ok → r.data = 0#32)

/-- If the response a step adds for a command has a STATUS other than OK, then the next state is the state before with
that command taken and that one response (DATA 0) added on its port: every voice field, decoder field, event
output and parameter is as before. States R334. -/
def Obligations.RejectionChangesNothing : Prop :=
  ∀ (s t : State) (p : Port) (w : CommandWord) (rest : List HostInput) (r : Response),
    s.inputs = .command p w :: rest → step s = .next t → t.responsesOn p = s.responsesOn p ++ [r] → r.status ≠ .ok →
    t = ({ s with port := p, inputs := rest } : State).rejected r.status

/-- An unassigned opcode answers ILLEGAL_OPCODE before anything else; NOP answers OK before every other check; then,
for every other command, a unit the opcode does not accept answers ILLEGAL_UNIT, else the wrong port WRONG_PORT,
else an instance out of range BAD_INSTANCE, else a reserved bit RESERVED_BITS, else the command answers
CONTRACT_VIOLATION or OK. The reserved masks are the ones R333 lists, the units an opcode accepts are the ones of
R110, and the STATUS codes are 0 to 6. States R332, R333. -/
def Obligations.CheckOrder : Prop :=
  (∀ (s : State) (p : Port) (w : CommandWord) (rest : List HostInput), s.inputs = .command p w :: rest →
    unassignedOpcode (opcodeField w).toNat →
    step s = .next (({ s with port := p, inputs := rest } : State).rejected .illegalOpcode)) ∧
  (∀ (c : CommandFields) (s : State), exec (.nop c) s = .next (s.withResponse s.port ⟨.ok, 0#32⟩)) ∧
  (∀ (i : Instr) (s : State), i.opcode ≠ 0x00#8 →
    ((∀ u, unitOfCode i.fields.unit = some u → instrAccepts i u = false) →
      exec i s = .next (s.rejected .illegalUnit)) ∧
    (∀ u, unitOfCode i.fields.unit = some u → instrAccepts i u = true →
      let count := if u = .dec then s.decoders.length else s.voices.length
      let wrongPort := s.port ≠ (if u = .dec then .cport else .aport)
      (wrongPort → exec i s = .next (s.rejected .wrongPort)) ∧
      (¬wrongPort → count ≤ i.fields.inst.toNat → exec i s = .next (s.rejected .badInstance)) ∧
      (¬wrongPort → i.fields.inst.toNat < count →
        i.fields.rsv ≠ 0#12 ∨ i.fields.operand &&& reservedMask (instrFormat i) ≠ 0#32 →
        exec i s = .next (s.rejected .reservedBits)) ∧
      (¬wrongPort → i.fields.inst.toNat < count → i.fields.rsv = 0#12 →
        i.fields.operand &&& reservedMask (instrFormat i) = 0#32 →
        exec i s = .next (s.rejected .contractViolation) ∨
        ∃ t d, exec i s = .next t ∧ t.responsesOn s.port = s.responsesOn s.port ++ [⟨.ok, d⟩]))) ∧
  reservedMask .wave = 0xFFFFFFF8#32 ∧ reservedMask .keyvel = 0xFFFF0000#32 ∧ reservedMask .byte = 0xFFFFFF00#32 ∧
  reservedMask .none = 0xFFFFFFFF#32 ∧ reservedMask .f32 = 0#32 ∧ reservedMask .u32 = 0#32 ∧
  reservedMask .s32 = 0#32 ∧ reservedMask .regidx = 0#32 ∧
  (∀ (i : Instr) (u : UnitId), i.opcode ≠ 0x00#8 →
    let opc := i.opcode.toNat
    (instrAccepts i u = true ↔
      (0x01 ≤ opc ∧ opc ≤ 0x09 ∧ ∃ o, u = .osc o) ∨ (0x10 ≤ opc ∧ opc ≤ 0x17 ∧ ∃ e, u = .eg e) ∨
      (0x20 ≤ opc ∧ opc ≤ 0x24 ∧ u = .vcf) ∨ (0x28 ≤ opc ∧ opc ≤ 0x2A ∧ u = .vca) ∨
      (0x30 ≤ opc ∧ opc ≤ 0x31 ∧ u = .mix) ∨ (0x38 ≤ opc ∧ opc ≤ 0x3D ∧ u = .voice) ∨ opc = 0x3F ∨
      (0x40 ≤ opc ∧ opc ≤ 0x41 ∧ u = .dec))) ∧
  ([.ok, .illegalOpcode, .illegalUnit, .wrongPort, .badInstance, .reservedBits, .contractViolation].map statusCode =
    [0#8, 1#8, 2#8, 3#8, 4#8, 5#8, 6#8])

/-- The reset state with the default parameters, one voice and one decoder satisfies stateOk: legal parameters and
every field of every voice within the legal values of 10_state.md. Derived from spec/70_reset_and_hazards.md
section 1, spec/10_state.md section 2. -/
def Obligations.ResetInvariant : Prop :=
  stateOk State.reset = true

/-- For all parameters that meet their requirements and all legal instance counts, the state after reset satisfies
stateOk. Derived from spec/70_reset_and_hazards.md section 1, spec/00_scope.md section 4. -/
def Obligations.ResetInvariantEveryBlock : Prop :=
  ∀ (p : Params) (n m : Nat), paramsLegal p = true → 1 ≤ n → n ≤ 256 → 1 ≤ m → m ≤ 256 →
    stateOk (State.resetWith p n m) = true

/-- From every state that satisfies stateOk, any step leads to a state that satisfies it: BASE stays finite and
positive, EFF stays the function of BASE, DETUNE and OCTAVE, PHASE stays below 2^32 - 1, NOISE stays nonzero,
every level, delay-line word and output stays in its range, KEY stays at most 127, and the parameters stay legal.
Derived from spec/10_state.md section 2, spec/10_state.md section 3, spec/10_state.md section 4, spec/10_state.md
section 5, spec/40_oscillator.md section 6, spec/42_envelope.md section 4, spec/43_filter.md section 4,
spec/44_amp_mixer.md section 2. -/
def Obligations.StepKeepsInvariant : Prop :=
  ∀ s t : State, stateOk s = true → step s = .next t → stateOk t = true

/-- Whatever interaction a step carries out, SAMPLE_RATE, the seeds, EXP2, both ROMs, BIQUAD_COEFFS, FC_MIN, FC_MAX,
N_VOICES and N_DECODERS are as before. Derived from spec/10_state.md section 8. -/
def Obligations.StepKeepsParameters : Prop :=
  ∀ s t : State, step s = .next t →
    t.params = s.params ∧ t.voices.length = s.voices.length ∧ t.decoders.length = s.decoders.length

/-- A command on APORT leaves every decoder and every CPORT response as it was, and its effect on the voices and its
response depend on the voices and the parameters alone; a command on CPORT leaves every voice and every APORT
response as it was, and its effect and response depend on the decoders alone. States R53. -/
def Obligations.PortSeparation : Prop :=
  (∀ (s t s' t' : State) (w : CommandWord) (rest rest' : List HostInput),
    s.inputs = .command .aport w :: rest → s'.inputs = .command .aport w :: rest' →
    step s = .next t → step s' = .next t' →
    t.decoders = s.decoders ∧ t.cportOut = s.cportOut ∧
    (s.params = s'.params → s.voices = s'.voices → s.aportOut = s'.aportOut →
      t.voices = t'.voices ∧ t.aportOut = t'.aportOut)) ∧
  (∀ (s t s' t' : State) (w : CommandWord) (rest rest' : List HostInput),
    s.inputs = .command .cport w :: rest → s'.inputs = .command .cport w :: rest' →
    step s = .next t → step s' = .next t' →
    t.voices = s.voices ∧ t.aportOut = s.aportOut ∧
    (s.decoders = s'.decoders → s.cportOut = s'.cportOut →
      t.decoders = t'.decoders ∧ t.cportOut = t'.cportOut))

/-- A command leaves every voice and every decoder but the one of its INST field as it was; and in two states with the
same parameters whose instance INST agrees, it leaves that instance the same and gives the same response, whatever
the other instances hold. States R54. -/
def Obligations.InstanceIndependence : Prop :=
  ∀ (s t s' t' : State) (p : Port) (w : CommandWord) (rest rest' : List HostInput),
    s.inputs = .command p w :: rest → s'.inputs = .command p w :: rest' → step s = .next t → step s' = .next t' →
    let k := (commandFields w).inst.toNat
    (∀ j, j ≠ k → t.voices[j]? = s.voices[j]? ∧ t.decoders[j]? = s.decoders[j]?) ∧
    (s.params = s'.params → s.voices[k]? = s'.voices[k]? → s.decoders[k]? = s'.decoders[k]? →
      t.voices[k]? = t'.voices[k]? ∧ t.decoders[k]? = t'.decoders[k]? ∧
      ∃ r, t.responsesOn p = s.responsesOn p ++ [r] ∧ t'.responsesOn p = s'.responsesOn p ++ [r])

/-- Take any two orders of commands with the same APORT sequence and the same CPORT sequence. Run from the same state,
both complete, and they end with the same voices, the same decoders and event outputs, and the same responses in
order on each port. States R84. -/
def Obligations.InterleavingUnobservable : Prop :=
  ∀ (s : State) (l l' : List HostInput), onlyCommands l → onlyCommands l' →
    inputsOn .aport l = inputsOn .aport l' → inputsOn .cport l = inputsOn .cport l' →
    ∃ t t' : State,
      core.run l.length ({ s with inputs := l } : State) = .next t ∧
      core.run l'.length ({ s with inputs := l' } : State) = .next t' ∧
      t.params = t'.params ∧ t.voices = t'.voices ∧ t.decoders = t'.decoders ∧
      t.aportOut = t'.aportOut ∧ t.cportOut = t'.cportOut

/-- NOP, OSC_READ, EG_READ, VCF_READ, VCA_READ, MIX_READ, VOICE_READ, VOICE_STATE, VOICE_KEY and READ_REG, accepted or
rejected, answer a next state that is the state before with one response added. Derived from spec/20_memory.md
section 3. -/
def Obligations.ReadsChangeNothing : Prop :=
  ∀ (i : Instr) (s : State), isRead i = true → ∃ r, exec i s = .next (s.withResponse s.port r)

/-- Issuing any setter, EG_NOTE_ON, EG_NOTE_OFF, VOICE_NOTE_ON, VOICE_NOTE_OFF or DEC_CLEAR_COUNTERS a second time in
a row answers with the same response and changes no state beyond it. Derived from spec/20_memory.md section 3. -/
def Obligations.WritesIdempotent : Prop :=
  ∀ (i : Instr) (s : State), isIdempotentWrite i = true →
    ∃ (t : State) (r : Response), exec i s = .next t ∧ t.responsesOn s.port = s.responsesOn s.port ++ [r] ∧
      exec i t = .next (t.withResponse s.port r)

/-- rnd32 of exact zero is +0.0; a magnitude of at least (2 - 2^-24) x 2^127 gives the infinity of its sign; every
other nonzero q gives a finite word with the sign of q whose value no finite word is nearer to, and when another
value is equally near the chosen word is the one with an even last bit. States R17. -/
def Obligations.Rnd32Nearest : Prop :=
  ∀ q : Rat,
    let limit : Rat := (2 - 1 / 2 ^ 24) * 2 ^ 127
    (q = 0 → rnd32 q = 0x00000000#32) ∧
    (limit ≤ q → rnd32 q = 0x7F800000#32) ∧
    (q ≤ -limit → rnd32 q = 0xFF800000#32) ∧
    (q ≠ 0 → |q| < limit →
      f32Finite (rnd32 q) = true ∧ (rnd32 q).getLsbD 31 = decide (q < 0) ∧
      ∀ v : F32, f32Finite v = true →
        |q - val (rnd32 q)| ≤ |q - val v| ∧
        (|q - val (rnd32 q)| = |q - val v| → val v ≠ val (rnd32 q) → (rnd32 q).getLsbD 0 = false))

/-- With exponent field e and fraction f: for e in 1..254 the value is (-1)^sign x (2^23 + f) x 2^(e-150), for e = 0
it is (-1)^sign x f x 2^-149, for e = 255 and f = 0 it is the infinity of the sign, and for e = 255 and f nonzero
there is none. Comparisons compare values, an infinity beyond every finite value, and a comparison with a NaN is
false. For every finite word w, rnd32(val(w)) is w, but for -0.0, whose value 0 gives +0.0. Derived from R16, R17. -/
def Obligations.Rnd32OfVal : Prop :=
  (∀ w : F32,
    let sign : Rat := if w.getLsbD 31 then -1 else 1
    let e := (w.extractLsb' 23 8).toNat
    let f := (w.extractLsb' 0 23).toNat
    (1 ≤ e → e ≤ 254 → f32Value w = .finite (val w) ∧ val w = sign * (2 ^ 23 + f) * (2 : Rat) ^ ((e : Int) - 150)) ∧
    (e = 0 → f32Value w = .finite (val w) ∧ val w = sign * f * (2 : Rat) ^ (-149 : Int)) ∧
    (e = 255 → f = 0 → f32Value w = if w.getLsbD 31 then .negInf else .posInf) ∧
    (e = 255 → f ≠ 0 → f32Value w = .nan)) ∧
  (∀ (a b : F32) (q r : Rat), f32Value a = .finite q → f32Value b = .finite r → (f32Lt a b = true ↔ q < r)) ∧
  (∀ (a : F32) (q : Rat), f32Value a = .finite q →
    f32Lt a 0x7F800000#32 = true ∧ f32Lt 0x7F800000#32 a = false ∧
    f32Lt 0xFF800000#32 a = true ∧ f32Lt a 0xFF800000#32 = false) ∧
  (∀ a b : F32, f32Value a = .nan ∨ f32Value b = .nan → f32Lt a b = false) ∧
  (∀ w : F32, f32Finite w = true → rnd32 (val w) = if val w = 0 then 0x00000000#32 else w)

/-- If q lies between the values of two finite words, rnd32(q) is finite and its value lies between them too; in
particular [-1, 1] and [0, 1] are kept. Derived from spec/40_oscillator.md section 6, spec/42_envelope.md section
4. -/
def Obligations.Rnd32KeepsBounds : Prop :=
  ∀ (a b : F32) (q : Rat), f32Finite a = true → f32Finite b = true → val a ≤ q → q ≤ val b →
    FiniteWith (rnd32 q) (fun r => val a ≤ r ∧ r ≤ val b)

/-- round_half_away(q) is floor(q + 1/2) for q >= 0; period_of(+inf) is 1 and period_of of a positive finite f is the
rounded quotient SAMPLE_RATE / val(f) clamped to 1..2^32-1; seg_len of a time t >= 0 is the rounded product val(t)
x SAMPLE_RATE clamped to 1..2^32-1. States R19, R155, R222. -/
def Obligations.IntegerConversions : Prop :=
  (∀ q : Rat, 0 ≤ q → roundHalfAway q = ⌊q + 1 / 2⌋₊) ∧
  (∀ p : Params, periodOf p 0x7F800000#32 = 1) ∧
  (∀ (p : Params) (f : F32), FiniteWith f (fun q => 0 < q) →
    periodOf p f = max 1 (min ⌊(p.sampleRate : Rat) / val f + 1 / 2⌋₊ (2 ^ 32 - 1))) ∧
  (∀ (p : Params) (t : F32), FiniteWith t (fun q => 0 ≤ q) →
    segLen p t = max 1 (min ⌊val t * (p.sampleRate : Rat) + 1 / 2⌋₊ (2 ^ 32 - 1)))

/-- For every word x with value in [-0.5, 0.5], the default EXP2 is rnd32 of a rational that differs from the real
number 2^val(x) by at most 2^-200. It rests on the model's choice of a rational series for a real number (log
entry 7). Derived from spec/00_scope.md section 6. -/
def Obligations.Exp2DefaultAccuracy : Prop :=
  ∀ (p : Params) (x : F32), p.exp2 = .correctlyRounded → f32Within x (-1 / 2) (1 / 2) = true →
    exp2Of p x = rnd32 (exp2Rational (val x)) ∧
    |((exp2Rational (val x) : Rat) : ℝ) - (2 : ℝ) ^ ((val x : Rat) : ℝ)| ≤ 1 / 2 ^ 200

/-- eff_of is rnd32 of the exact product. With DETUNE of value 0 and OCTAVE 0, EFF is BASE bit for bit; with DETUNE of
value 0 and a product in the normal range, EFF is exactly BASE x 2^OCTAVE; setting OCTAVE to k and back to 0
restores the oscillator. Derived from spec/40_oscillator.md section 3. -/
def Obligations.EffFormula : Prop :=
  (∀ (p : Params) (base detune : F32) (octave : BitVec 32),
    effOf p base detune octave = rnd32 (val base * val (exp2Of p detune) * (2 : Rat) ^ octave.toInt)) ∧
  (∀ (p : Params) (base detune : F32), exp2AtZero p = true → FiniteWith base (fun b => 0 < b) →
    FiniteWith detune (fun d => d = 0) → effOf p base detune 0#32 = base) ∧
  (∀ (p : Params) (base detune : F32) (octave : BitVec 32), exp2AtZero p = true → FiniteWith base (fun b => 0 < b) →
    FiniteWith detune (fun d => d = 0) → 1 / 2 ^ 126 ≤ val base * (2 : Rat) ^ octave.toInt →
    val base * (2 : Rat) ^ octave.toInt < 2 ^ 128 →
    FiniteWith (effOf p base detune octave) (fun e => e = val base * (2 : Rat) ^ octave.toInt)) ∧
  (∀ (p : Params) (o : Osc) (k : BitVec 32), o.octave = 0#32 → o.eff = effOf p o.base o.detune o.octave →
    ({ (({ o with octave := k } : Osc).refreshEff p) with octave := 0#32 } : Osc).refreshEff p = o)

/-- For every EXP2 that meets its requirement and legal BASE, DETUNE and OCTAVE: EFF is +inf exactly when the product
reaches the overflow bound, +0.0 exactly when the product is at most 2^-150, which a BASE of at least 2^-146 rules
out, and otherwise finite with a value of at least 0. An oscillator with EFF +0.0 and no modulator holds at every
advance, and so does one with a modulator whose OUT x DEPTH is at most 0; one whose rounded modulation is positive
advances at that frequency, which is the model's choice between R37 and R153 (log entry 17). Derived from
spec/10_state.md section 2, spec/00_scope.md section 6. -/
def Obligations.EffBounds : Prop :=
  (∀ (p : Params) (base detune : F32) (octave : BitVec 32), Exp2Legal p → FiniteWith base (fun b => 0 < b) →
    FiniteWith detune (fun d => -1 / 2 ≤ d ∧ d ≤ 1 / 2) → -3 ≤ octave.toInt → octave.toInt ≤ 2 →
    let q := val base * val (exp2Of p detune) * (2 : Rat) ^ octave.toInt
    let eff := effOf p base detune octave
    (eff = 0x7F800000#32 ↔ (2 - 1 / 2 ^ 24) * 2 ^ 127 ≤ q) ∧
    (eff = 0x00000000#32 ↔ q ≤ 1 / 2 ^ 150) ∧
    (1 / 2 ^ 146 ≤ val base → eff ≠ 0x00000000#32) ∧
    (eff = 0x7F800000#32 ∨ FiniteWith eff (fun e => 0 ≤ e))) ∧
  (∀ (p : Params) (o : Osc), o.eff = 0x00000000#32 →
    oscStep p o none = o ∧
    (∀ l : F32, val l * val o.depth ≤ 0 → oscStep p o (some l) = o) ∧
    (∀ l : F32,
      let f := rnd32 (val l * val o.depth * 20)
      oscStep p o (some l) = if f32Lt 0x00000000#32 f then oscSample p o (periodOf p f) else o))

/-- With f the effective frequency, or its modulated value rounded once (+inf stays +inf): if the value of f is at
most 0 the advance changes nothing; if f is positive or +inf, P is the period, p the phase or 0 when it is at or
past P, OUT is the waveform formula at p (noise steps the generator and maps the new state), PHASE becomes p + 1
or 0 at the period, and every other field is unchanged. States R157. -/
def Obligations.OscStepRule : Prop :=
  ∀ (par : Params) (o : Osc) (m : Option F32),
    let f : F32 :=
      match m with
      | none => o.eff
      | some l => if o.eff = 0x7F800000#32 then 0x7F800000#32 else rnd32 (val o.eff + val l * val o.depth * 20)
    (FiniteWith f (fun q => q ≤ 0) → oscStep par o m = o) ∧
    (f = 0x7F800000#32 ∨ FiniteWith f (fun q => 0 < q) →
      let P := periodOf par f
      let p := if o.phase.toNat < P then o.phase.toNat else 0
      oscStep par o m =
        { o with
          phase := BitVec.ofNat 32 (if p + 1 < P then p + 1 else 0)
          noise := if o.wave = .noise then lfsrStep o.noise else o.noise
          out :=
            match o.wave with
            | .sine => memReadSine par (p * 360 / P)
            | .square => if 2 * p < P then 0x3F800000#32 else 0xBF800000#32
            | .sawtooth => rnd32 ((2 * (p : Rat) - P) / P)
            | .triangle =>
                if 2 * p < P then rnd32 ((4 * (p : Rat) - P) / P) else rnd32 ((3 * (P : Rat) - 4 * p) / P)
            | .pulse8 => if 8 * p < P then 0x3F800000#32 else 0xBF800000#32
            | .pulse4 => if 4 * p < P then 0x3F800000#32 else 0xBF800000#32
            | .noise => rnd32 (((lfsrStep o.noise).toNat / 2 ^ 8 : Nat) / 2 ^ 23 - 1) })

/-- While the modulator word stays the same and the sample is not held, after k advances from a phase below P the
phase is (phase + k) mod P, and for every waveform but noise the output after k + P + 1 advances is the output
after k + 1. Derived from spec/40_oscillator.md section 6. -/
def Obligations.OscPeriodic : Prop :=
  ∀ (par : Params) (o : Osc) (m : Option F32) (k : Nat),
    let f := instantFrequency o m
    let P := periodOf par f
    let after : Nat → Osc := fun j => (fun x => oscStep par x m)^[j] o
    (f = 0x7F800000#32 ∨ FiniteWith f (fun q => 0 < q)) → o.phase.toNat < P →
    (after k).phase.toNat = (o.phase.toNat + k) % P ∧
    (o.wave ≠ .noise → (after (k + P + 1)).out = (after (k + 1)).out)

/-- lfsr_step shifts right by one and, when the bit shifted out is 1, toggles with 0x8020_0003; it maps 0 to 0, every
nonzero state to a nonzero state, and no two states to one. From a nonzero state the steps reach every nonzero
state and come back to the first one after 2^32 - 1 steps, not before. noise_out(s) is rnd32(s[31:8] / 2^23 - 1),
is finite with exactly that value, in [-1, 1 - 2^-23], and each top value t belongs to the 256 states t x 2^8 + j,
of which only t = j = 0 is the state 0. The two examples of R167. States R165, R166, R167. -/
def Obligations.NoiseGenerator : Prop :=
  (∀ s : BitVec 32, lfsrStep s = if s.getLsbD 0 then (s >>> 1) ^^^ 0x80200003#32 else s >>> 1) ∧
  lfsrStep 0#32 = 0#32 ∧ (∀ s : BitVec 32, s ≠ 0#32 → lfsrStep s ≠ 0#32) ∧
  (∀ s s' : BitVec 32, lfsrStep s = lfsrStep s' → s = s') ∧
  (∀ s : BitVec 32, s ≠ 0#32 →
    lfsrStep^[2 ^ 32 - 1] s = s ∧ (∀ k, 0 < k → k < 2 ^ 32 - 1 → lfsrStep^[k] s ≠ s) ∧
    ∀ t : BitVec 32, t ≠ 0#32 → ∃ k, k < 2 ^ 32 - 1 ∧ lfsrStep^[k] s = t) ∧
  (∀ s : BitVec 32,
    let top : Rat := ((s.toNat / 2 ^ 8 : Nat) : Rat)
    noiseOut s = rnd32 (top / 2 ^ 23 - 1) ∧
    FiniteWith (noiseOut s) (fun q => q = top / 2 ^ 23 - 1 ∧ -1 ≤ q ∧ q ≤ 1 - 1 / 2 ^ 23)) ∧
  (∀ t j : Nat, t < 2 ^ 24 → j < 2 ^ 8 →
    (BitVec.ofNat 32 (t * 2 ^ 8 + j)).toNat / 2 ^ 8 = t ∧ (BitVec.ofNat 32 (t * 2 ^ 8 + j) = 0#32 ↔ t = 0 ∧ j = 0)) ∧
  lfsrStep 1#32 = 0x80200003#32 ∧ noiseOut 0x80200003#32 = 0x3A800000#32

/-- With tables that meet their requirements, the sine index floor(p x 360 / P) for p < P and every note below 108
read an entry of their ROM; and for P divisible by 4 the sine is +0.0 at p = 0, 1.0 at P/4, a word of value 0 at
P/2 and -1.0 at 3P/4. The requirement on SINE_TABLE is the one of R86: 360 entries, each finite in [-1, 1], and
the four quarter entries. States R76, R86, R158. -/
def Obligations.RomIndices : Prop :=
  (∀ t : List F32, sineTableLegal t = true ↔
    t.length = 360 ∧ (∀ w ∈ t, FiniteWith w (fun q => -1 ≤ q ∧ q ≤ 1)) ∧ t[0]? = some 0x00000000#32 ∧
    t[90]? = some 0x3F800000#32 ∧ (∃ w, t[180]? = some w ∧ FiniteWith w (fun q => q = 0)) ∧
    t[270]? = some 0xBF800000#32) ∧
  ∀ par : Params, sineTableLegal par.sineTable = true → noteTableLegal par.noteTable = true →
    (∀ p P : Nat, p < P →
      par.sineTable[p * 360 / P]? = some (memReadSine par (p * 360 / P)) ∧
      waveOut par .sine p P = some (memReadSine par (p * 360 / P))) ∧
    (∀ n : Nat, n < 108 → par.noteTable[n]? = some (memReadNote par n)) ∧
    (∀ P : Nat, 0 < P → 4 ∣ P →
      waveOut par .sine 0 P = some 0x00000000#32 ∧ waveOut par .sine (P / 4) P = some 0x3F800000#32 ∧
      (∃ w, waveOut par .sine (P / 2) P = some w ∧ FiniteWith w (fun q => q = 0)) ∧
      waveOut par .sine (3 * P / 4) P = some 0xBF800000#32)

/-- Idle writes LEVEL +0.0 and nothing else. Attack, decay and release count the sample (saturating); on the last
sample of the segment they write the end level and enter the next state, before it the point of the straight line,
rounded once; sustain writes rnd32(SUSTAIN x PEAK). Every other field is unchanged. States R231, R232, R233, R234,
R235. -/
def Obligations.EgStepRule : Prop :=
  ∀ (p : Params) (e : Eg),
    let n := min (e.segCount.toNat + 1) (2 ^ 32 - 1)
    let target := val e.sustain * val e.peak
    (e.state = .idle → egStep p e = { e with level := 0x00000000#32 }) ∧
    (e.state = .attack → segLen p e.attack ≤ n →
      egStep p e = { e with level := e.peak, state := .decay, segStart := e.peak, segCount := 0#32 }) ∧
    (e.state = .attack → n < segLen p e.attack →
      egStep p e =
        { e with
          segCount := BitVec.ofNat 32 n
          level := rnd32 (val e.segStart + (val e.peak - val e.segStart) * n / segLen p e.attack) }) ∧
    (e.state = .decay → segLen p e.decay ≤ n →
      egStep p e = { e with level := rnd32 target, state := .sustain, segCount := 0#32 }) ∧
    (e.state = .decay → n < segLen p e.decay →
      egStep p e =
        { e with
          segCount := BitVec.ofNat 32 n
          level := rnd32 (val e.segStart + (target - val e.segStart) * n / segLen p e.decay) }) ∧
    (e.state = .sustain → egStep p e = { e with level := rnd32 target }) ∧
    (e.state = .release → segLen p e.release ≤ n →
      egStep p e = { e with level := 0x00000000#32, state := .idle, segCount := 0#32 }) ∧
    (e.state = .release → n < segLen p e.release →
      egStep p e =
        { e with
          segCount := BitVec.ofNat 32 n
          level := rnd32 (val e.segStart * (1 - (n : Rat) / segLen p e.release)) })

/-- Note-on leads from any state to Attack and note-off to Release. A step leaves Idle and Sustain where they are, and
moves Attack to Decay, Decay to Sustain and Release to Idle exactly when SEG_COUNT + 1 has reached the segment
length. States R237. -/
def Obligations.EgTransitionTable : Prop :=
  ∀ (p : Params) (e : Eg),
    (∀ v : F32, (egNoteOn e v).state = .attack) ∧ (egNoteOff e).state = .release ∧
    (e.state = .idle → (egStep p e).state = .idle) ∧
    (e.state = .attack →
      (egStep p e).state = if segLen p e.attack ≤ e.segCount.toNat + 1 then .decay else .attack) ∧
    (e.state = .decay →
      (egStep p e).state = if segLen p e.decay ≤ e.segCount.toNat + 1 then .sustain else .decay) ∧
    (e.state = .sustain → (egStep p e).state = .sustain) ∧
    (e.state = .release →
      (egStep p e).state = if segLen p e.release ≤ e.segCount.toNat + 1 then .idle else .release)

/-- After a note-on the attack stays in Attack for fewer than seg_len(ATTACK) steps, on the straight line from the
level at note-on to the peak, and reaches Decay at the peak on step seg_len(ATTACK); the decay starts there with
SEG_START the peak and SEG_COUNT 0; a decay stays in Decay for fewer than seg_len(DECAY) steps, on the straight
line from SEG_START to SUSTAIN x PEAK, and reaches Sustain at rnd32(SUSTAIN x PEAK) on step seg_len(DECAY); after
a note-off the release runs from the level at note-off to Idle at +0.0 on step seg_len(RELEASE), not before.
Derived from R232, R233, R235, R238. -/
def Obligations.EgDurations : Prop :=
  ∀ (p : Params) (e : Eg) (v : F32),
    let after : Eg → Nat → Eg := fun x j => (egStep p)^[j] x
    let on := egNoteOn e v
    let off := egNoteOff e
    (∀ n, n < segLen p e.attack →
      (after on n).state = .attack ∧ (after on n).segCount.toNat = n ∧
      (0 < n → (after on n).level = rnd32 (val e.level + (val v - val e.level) * n / segLen p e.attack))) ∧
    (after on (segLen p e.attack)).state = .decay ∧ (after on (segLen p e.attack)).level = v ∧
    (after on (segLen p e.attack)).segStart = v ∧ (after on (segLen p e.attack)).segCount = 0#32 ∧
    (e.state = .decay → e.segCount = 0#32 →
      (∀ n, n < segLen p e.decay →
        (after e n).state = .decay ∧ (after e n).segCount.toNat = n ∧
        (0 < n → (after e n).level =
          rnd32 (val e.segStart + (val e.sustain * val e.peak - val e.segStart) * n / segLen p e.decay))) ∧
      (after e (segLen p e.decay)).state = .sustain ∧
      (after e (segLen p e.decay)).level = rnd32 (val e.sustain * val e.peak)) ∧
    (∀ n, n < segLen p e.release →
      (after off n).state = .release ∧ (after off n).segCount.toNat = n ∧
      (0 < n → (after off n).level = rnd32 (val e.level * (1 - (n : Rat) / segLen p e.release)))) ∧
    (after off (segLen p e.release)).state = .idle ∧ (after off (segLen p e.release)).level = 0x00000000#32

/-- The gain is e x (1 - MODVOL x (1 - l) / 2), the cutoff is rnd32(CUTOFF x gain) clamped to FC_MIN..FC_MAX, the
coefficients are BIQUAD_COEFFS of it and RESONANCE, the output is the Direct Form I sum rounded once and clamped
to -1..+1; X2, X1, Y2, Y1 and OUT are written as R261 says, CUTOFF, RESONANCE and MODVOL are unchanged. clamp(x,
lo, hi) on words with finite lo and hi is lo when the value of x is below lo (or -inf), hi when it is above hi (or
+inf), and the word x unchanged otherwise (also for a NaN); on integers it is the same. A sum too large for an
f32, which very large substitute coefficients can give, is rounded to an infinity by R17 and then clamped, the
model's choice beside R23 and R260 (log entry 19). Derived from R20, R259, R260, R261. -/
def Obligations.VcfStepRule : Prop :=
  (∀ x lo hi : F32, f32Finite lo = true → f32Finite hi = true →
    (f32Value x = .negInf → clampF32 x lo hi = lo) ∧ (f32Value x = .posInf → clampF32 x lo hi = hi) ∧
    (f32Value x = .nan → clampF32 x lo hi = x) ∧
    (f32Finite x = true →
      clampF32 x lo hi = if val x < val lo then lo else if val hi < val x then hi else x)) ∧
  (∀ x lo hi : Nat, clampNat x lo hi = if x < lo then lo else if hi < x then hi else x) ∧
  ∀ (p : Params) (c : Vcf) (x l e : F32),
    let g := val e * (1 - val c.modvol * (1 - val l) / 2)
    let fc := clampF32 (rnd32 (val c.cutoff * g)) p.fcMin p.fcMax
    let k := biquadOf p fc c.resonance
    let y0 := rnd32 (val k.b0 * val x + val k.b1 * val c.x1 + val k.b2 * val c.x2 - val k.a1 * val c.y1
      - val k.a2 * val c.y2)
    let y := clampF32 y0 0xBF800000#32 0x3F800000#32
    vcfStep p c x l e = { c with x2 := c.x1, x1 := x, y2 := c.y1, y1 := y, out := y } ∧
    (FiniteWith e (fun q => 0 ≤ q ∧ q ≤ 1) → FiniteWith c.modvol (fun q => 0 ≤ q ∧ q ≤ 1) →
      FiniteWith l (fun q => -1 ≤ q ∧ q ≤ 1) → 0 ≤ g ∧ g ≤ 1)

/-- Whatever the coefficients, OUT and Y1 after a step are finite with a value in [-1, 1]; fc never leaves
FC_MIN..FC_MAX; and with the input and the delay line at +0.0, OUT and the delay line stay +0.0. Derived from
spec/43_filter.md section 4. -/
def Obligations.VcfProperties : Prop :=
  ∀ (p : Params) (c : Vcf) (x l e : F32),
    FiniteWith (vcfStep p c x l e).out (fun q => -1 ≤ q ∧ q ≤ 1) ∧ (vcfStep p c x l e).y1 = (vcfStep p c x l e).out ∧
    (f32Finite p.fcMin = true → f32Finite p.fcMax = true → val p.fcMin ≤ val p.fcMax →
      FiniteWith (modulatedCutoff p c l e) (fun q => val p.fcMin ≤ q ∧ q ≤ val p.fcMax)) ∧
    (c.x1 = 0#32 → c.x2 = 0#32 → c.y1 = 0#32 → c.y2 = 0#32 →
      vcfStep p c 0x00000000#32 l e = { c with out := 0x00000000#32 })

/-- With inputs in range the amplifier gain is in [0, 1] and |OUT| <= |x| <= 1; an exact zero product gives +0.0 and a
nonzero product keeps its sign. The mixer output is in [-1, 1]; an exact zero sum gives +0.0; (2^-149 + 0)/2 gives
+0.0 and (3 x 2^-149 + 0)/2 gives 2 x 2^-149; the mixer is commutative. States R275, R283. -/
def Obligations.AmpMixRanges : Prop :=
  (∀ (a : Vca) (x l e : F32), FiniteWith x (fun q => -1 ≤ q ∧ q ≤ 1) → FiniteWith e (fun q => 0 ≤ q ∧ q ≤ 1) →
    FiniteWith l (fun q => -1 ≤ q ∧ q ≤ 1) → FiniteWith a.modvol (fun q => 0 ≤ q ∧ q ≤ 1) →
    let gain := val e * (1 - val a.modvol * (1 - val l) / 2)
    0 ≤ gain ∧ gain ≤ 1 ∧ FiniteWith (vcaStep a x l e).out (fun q => |q| ≤ |val x|) ∧
    (val x * gain = 0 → (vcaStep a x l e).out = 0x00000000#32) ∧
    (val x * gain ≠ 0 → (vcaStep a x l e).out.getLsbD 31 = decide (val x * gain < 0))) ∧
  (∀ (m : Mix) (a b : F32), FiniteWith a (fun q => -1 ≤ q ∧ q ≤ 1) → FiniteWith b (fun q => -1 ≤ q ∧ q ≤ 1) →
    FiniteWith (mixStep m a b).out (fun q => -1 ≤ q ∧ q ≤ 1) ∧
    (val a + val b = 0 → (mixStep m a b).out = 0x00000000#32) ∧ mixStep m a b = mixStep m b a) ∧
  (∀ m : Mix, (mixStep m 0x00000001#32 0x00000000#32).out = 0x00000000#32 ∧
    (mixStep m 0x00000003#32 0x00000000#32).out = 0x00000002#32 ∧
    (mixStep m 0x80000000#32 0x80000000#32).out = 0x00000000#32)

/-- From any state with voice v, issuing OSC_ADVANCE LFO_VCO, VCO1, VCO2, MIX_ADVANCE, OSC_ADVANCE LFO_VCF, EG_ADVANCE
EG_VCF, VCF_ADVANCE, OSC_ADVANCE LFO_VCA, EG_ADVANCE EG_VCA and VCA_ADVANCE for v on APORT answers OK ten times
and leaves the same voices and decoders as one VOICE_ADVANCE for v. Derived from spec/70_reset_and_hazards.md
section 2, spec/41_voice.md section 3. -/
def Obligations.VoiceAdvanceIsUnitAdvances : Prop :=
  ∀ (s : State) (v : BitVec 8), v.toNat < s.voices.length →
    let units : List Instr :=
      [.oscAdvance (fieldsFor v (.osc .lfoVco) 0#32), .oscAdvance (fieldsFor v (.osc .vco1) 0#32),
       .oscAdvance (fieldsFor v (.osc .vco2) 0#32), .mixAdvance (fieldsFor v .mix 0#32),
       .oscAdvance (fieldsFor v (.osc .lfoVcf) 0#32), .egAdvance (fieldsFor v (.eg .vcf) 0#32),
       .vcfAdvance (fieldsFor v .vcf 0#32), .oscAdvance (fieldsFor v (.osc .lfoVca) 0#32),
       .egAdvance (fieldsFor v (.eg .vca) 0#32), .vcaAdvance (fieldsFor v .vca 0#32)]
    let whole : List Instr := [.voiceAdvance (fieldsFor v .voice 0#32)]
    ∃ t t' : State,
      core.run 10 ({ s with inputs := issueOn .aport units } : State) = .next t ∧
      core.run 1 ({ s with inputs := issueOn .aport whole } : State) = .next t' ∧
      t.voices = t'.voices ∧ t.decoders = t'.decoders ∧
      t.aportOut = s.aportOut ++ List.replicate 10 ⟨.ok, 0#32⟩ ∧ t'.aportOut = s.aportOut ++ [⟨.ok, 0#32⟩]

/-- From any state with voice v: VOICE_NOTE_OFF followed by any number of VOICE_ADVANCE commands that is at least
seg_len of the RELEASE of EG_VCA all answer OK, and then VOICE_STATE returns 0 and VOICE_KEY returns 0xFF. States
R207. -/
def Obligations.ReturnToIdle : Prop :=
  ∀ (s : State) (v : BitVec 8) (V : Voice) (k : Nat), s.voices[v.toNat]? = some V →
    segLen s.params V.egVca.release ≤ k →
    let program : List Instr :=
      [.voiceNoteOff (fieldsFor v .voice 0#32)] ++ List.replicate k (.voiceAdvance (fieldsFor v .voice 0#32)) ++
        [.voiceState (fieldsFor v .voice 0#32), .voiceKey (fieldsFor v .voice 0#32)]
    ∃ t : State,
      core.run (k + 3) ({ s with inputs := issueOn .aport program } : State) = .next t ∧
      t.aportOut = s.aportOut ++ List.replicate (k + 1) ⟨.ok, 0#32⟩ ++ [⟨.ok, 0#32⟩, ⟨.ok, 0xFF#32⟩]

/-- For a voice whose stored key is at most 127 (the invariant), the DATA of VOICE_KEY is 0xFF exactly when the DATA
of VOICE_STATE is 0. States R206. -/
def Obligations.VoiceFree : Prop :=
  ∀ (c : CommandFields) (s : State) (V : Voice), VoiceReached .voice c s V → reservedBitsSet .none c = false →
    V.key.toNat ≤ 127 →
    ∃ key state : BitVec 32,
      exec (.voiceKey c) s = .next (s.voiceAnswered c V .ok key) ∧
      exec (.voiceState c) s = .next (s.voiceAnswered c V .ok state) ∧
      (key = 0xFF#32 ↔ state = 0#32)

/-- A voice is silent when its EG_VCA is Idle, or in a release from +0.0, and EG_VCA.LEVEL and VCA.OUT are +0.0; it is
so after reset. Every step keeps it silent, whatever command (note-off included) or reset event it takes on either
port, unless the command is a VOICE_NOTE_ON of that voice or an EG_NOTE_ON of its EG_VCA; so does every run
without these two. A silent voice answers VOICE_READ with +0.0. From any state in which the EG_VCA of voice v is
Idle and VCA.OUT is +0.0, any number of VOICE_ADVANCE commands answers OK and VOICE_READ then returns +0.0.
Derived from spec/70_reset_and_hazards.md section 1, spec/41_voice.md section 2, spec/42_envelope.md section 3,
spec/44_amp_mixer.md section 2. -/
def Obligations.SilentUntilNoteOn : Prop :=
  (∀ (p : Params) (v : Nat), VoiceSilent (resetVoice p v)) ∧
  (∀ (s t : State) (v : BitVec 8) (V : Voice), s.voices[v.toNat]? = some V → VoiceSilent V →
    (∀ x rest, s.inputs = x :: rest → inputStarts v x = false) → step s = .next t →
    ∃ W, t.voices[v.toNat]? = some W ∧ VoiceSilent W) ∧
  (∀ (s : State) (v : BitVec 8) (V : Voice) (l : List HostInput), s.voices[v.toNat]? = some V → VoiceSilent V →
    (∀ x ∈ l, inputStarts v x = false) →
    ∃ (t : State) (W : Voice), core.run l.length ({ s with inputs := l } : State) = .next t ∧
      t.voices[v.toNat]? = some W ∧ VoiceSilent W) ∧
  (∀ (c : CommandFields) (s : State) (V : Voice), VoiceReached .voice c s V → reservedBitsSet .none c = false →
    VoiceSilent V → exec (.voiceRead c) s = .next (s.voiceAnswered c V .ok 0x00000000#32)) ∧
  (∀ (s : State) (v : BitVec 8) (V : Voice) (k : Nat), s.voices[v.toNat]? = some V → V.egVca.state = .idle →
    V.vca.out = 0x00000000#32 →
    let program : List Instr :=
      List.replicate k (.voiceAdvance (fieldsFor v .voice 0#32)) ++ [.voiceRead (fieldsFor v .voice 0#32)]
    ∃ t : State,
      core.run (k + 1) ({ s with inputs := issueOn .aport program } : State) = .next t ∧
      t.aportOut = s.aportOut ++ List.replicate k ⟨.ok, 0#32⟩ ++ [⟨.ok, 0x00000000#32⟩])

/-- The expansion of SAMPLE V<v> answers OK with DATA 0 and then OK with the VCA.OUT that one voice_step of that voice
writes. Derived from spec/30_encoding.md section 4, spec/41_voice.md section 2. -/
def Obligations.SampleReturnsNewOutput : Prop :=
  ∀ (s : State) (v : BitVec 8) (V : Voice), s.voices[v.toNat]? = some V →
    ∃ t : State,
      core.run 2 ({ s with inputs := issueOn .aport (expandSample v) } : State) = .next t ∧
      t.voices = s.voices.set v.toNat (voiceStep s.params V) ∧
      t.aportOut = s.aportOut ++ [⟨.ok, 0#32⟩, ⟨.ok, (voiceStep s.params V).vca.out⟩]

/-- Start accepts only 0x80, which resets the accumulators; the data states accept a byte with bit 7 clear and store
it; ReadStop accepts bits 7:6 = 11, emits the event on matching parity and counts a parity error otherwise; every
other byte counts one framing error and leads to Start, or for 0x80 straight to ReadAddress with the accumulators
reset. Every other field is unchanged. States R293. -/
def Obligations.DecoderTable : Prop :=
  ∀ (d : Decoder) (b : BitVec 8),
    let parity := parity16 (d.value.setWidth 16 ^^^ d.address.setWidth 16)
    let framed : Decoder := { d with frameErr := d.frameErr + 1#32, state := .start }
    let resync : Decoder × Option DecEvent :=
      (if b = 0x80#8 then { framed with address := 0#7, value := 0#14, state := .readAddress } else framed, none)
    (d.state = .start → b = 0x80#8 →
      decStep d b = ({ d with address := 0#7, value := 0#14, state := .readAddress }, none)) ∧
    (d.state = .start → b ≠ 0x80#8 → decStep d b = ({ d with frameErr := d.frameErr + 1#32 }, none)) ∧
    (d.state = .readAddress → b.getLsbD 7 = false →
      decStep d b = ({ d with address := b.setWidth 7, state := .readValue1 }, none)) ∧
    (d.state = .readValue1 → b.getLsbD 7 = false →
      decStep d b = ({ d with value := b.setWidth 14 <<< 7, state := .readValue2 }, none)) ∧
    (d.state = .readValue2 → b.getLsbD 7 = false →
      decStep d b = ({ d with value := d.value ||| b.setWidth 14, state := .readStop }, none)) ∧
    (d.state = .readAddress ∨ d.state = .readValue1 ∨ d.state = .readValue2 → b.getLsbD 7 = true →
      decStep d b = resync) ∧
    (d.state = .readStop → b &&& 0xC0#8 = 0xC0#8 → b.getLsbD 0 = parity →
      decStep d b =
        ({ d with state := .start, events := d.events ++ [⟨d.address, d.value⟩] }, some ⟨d.address, d.value⟩)) ∧
    (d.state = .readStop → b &&& 0xC0#8 = 0xC0#8 → b.getLsbD 0 ≠ parity →
      decStep d b = ({ d with state := .start, parityErr := d.parityErr + 1#32 }, none)) ∧
    (d.state = .readStop → b &&& 0xC0#8 ≠ 0xC0#8 → decStep d b = resync)

/-- From any decoder state, the five bytes of a message for address a and value v, with any stop byte whose top bits
are 11 and whose bit 0 is the parity, are answered OK; exactly the event (a, v) is appended to the event output
and returned in the fifth response; the decoder is back in Start, PARITY_ERR is unchanged and FRAME_ERR counts one
only if the decoder was inside a message. Derived from spec/45_serial_decoder.md section 4,
spec/45_serial_decoder.md section 3. -/
def Obligations.WholeMessageDecodes : Prop :=
  ∀ (s : State) (k : BitVec 8) (D : Decoder) (a : BitVec 7) (v : BitVec 14) (stop : BitVec 8),
    s.decoders[k.toNat]? = some D → stop &&& 0xC0#8 = 0xC0#8 →
    stop.getLsbD 0 = parity16 (v.setWidth 16 ^^^ a.setWidth 16) →
    let bytes : List (BitVec 8) :=
      [0x80#8, a.setWidth 8, (v.extractLsb' 7 7).setWidth 8, (v.extractLsb' 0 7).setWidth 8, stop]
    let program : List Instr := bytes.map fun b => .decByte (fieldsFor k .dec (b.setWidth 32))
    ∃ t : State,
      core.run 5 ({ s with inputs := issueOn .cport program } : State) = .next t ∧
      t.voices = s.voices ∧
      t.decoders = s.decoders.set k.toNat
        { state := .start, address := a, value := v,
          frameErr := if D.state = .start then D.frameErr else D.frameErr + 1#32,
          parityErr := D.parityErr, events := D.events ++ [⟨a, v⟩] } ∧
      t.cportOut = s.cportOut ++ List.replicate 4 ⟨.ok, 0#32⟩ ++ [⟨.ok, decData (some ⟨a, v⟩)⟩]

/-- dec_data(none) is 0; the word of an event has bit 31 set, the address in bits 20:14, the value in bits 13:0 and
bits 30:21 zero, with the three examples of R304; parity16(x) is 1 exactly when x has an odd number of set bits, a
message's parity is that of VALUE XOR zext_16(ADDRESS), and bits 15:14 of that word are 0. States R299, R304. -/
def Obligations.EventWordAndParity : Prop :=
  decData none = 0#32 ∧
  (∀ ev : DecEvent,
    (decData (some ev)).getLsbD 31 = true ∧ (decData (some ev)).extractLsb' 14 7 = ev.address ∧
    (decData (some ev)).extractLsb' 0 14 = ev.value ∧ (decData (some ev)).extractLsb' 21 10 = 0#10) ∧
  decData (some ⟨5#7, 64#14⟩) = 0x80014040#32 ∧ decData (some ⟨127#7, 16383#14⟩) = 0x801FFFFF#32 ∧
  decData (some ⟨0#7, 0#14⟩) = 0x80000000#32 ∧
  (∀ x : BitVec 16, parity16 x = decide (((List.range 16).filter fun k => x.getLsbD k).length % 2 = 1)) ∧
  (∀ (a : BitVec 7) (v : BitVec 14),
    let x : BitVec 16 := v.setWidth 16 ^^^ a.setWidth 16
    messageParity a v = parity16 x ∧ x.extractLsb' 14 2 = 0#2)

/-- For every oscillator reached: a reserved bit gives RESERVED_BITS; code 7 gives CONTRACT_VIOLATION; the codes 0..6
answer OK with Sine, Square, Sawtooth, Triangle, Pulse 1/8, Pulse 1/4 and WhiteNoise, in this order, in WAVE and
every other field of the state but the response log unchanged. States R141. -/
def Obligations.OscSetWaveformResult : Prop :=
  ∀ (c : CommandFields) (s : State) (V : Voice) (o : OscId), VoiceReached (.osc o) c s V →
    (reservedBitsSet .wave c = true → exec (.oscSetWaveform c) s = .next (s.rejected .reservedBits)) ∧
    (reservedBitsSet .wave c = false → c.operand.extractLsb' 0 3 = 7#3 →
      exec (.oscSetWaveform c) s = .next (s.rejected .contractViolation)) ∧
    (reservedBitsSet .wave c = false → ∀ w : Waveform,
        ([.sine, .square, .sawtooth, .triangle, .pulse8, .pulse4, .noise] : List Waveform)[(c.operand.extractLsb' 0 3).toNat]? = some w →
      exec (.oscSetWaveform c) s = .next (s.voiceAnswered c (V.setOsc o { V.osc o with wave := w }) .ok 0#32)) ∧
    (c.operand.extractLsb' 0 3 ≠ 7#3 → (c.operand.extractLsb' 0 3).toNat < 7)

/-- OSC_SET_FREQUENCY stores a finite positive operand in BASE and recomputes EFF, and rejects any other with
CONTRACT_VIOLATION. OSC_SET_MIDI_NOTE stores the note table entry of a note below 108 in BASE and recomputes EFF;
a note of 108 or more answers OK and changes nothing. No other field changes. States R142, R143. -/
def Obligations.OscSetPitchResult : Prop :=
  ∀ (c : CommandFields) (s : State) (V : Voice) (o : OscId), VoiceReached (.osc o) c s V →
    (reservedBitsSet .f32 c = true → exec (.oscSetFrequency c) s = .next (s.rejected .reservedBits)) ∧
    (reservedBitsSet .f32 c = false → ¬FiniteWith c.operand (fun q => 0 < q) →
      exec (.oscSetFrequency c) s = .next (s.rejected .contractViolation)) ∧
    (reservedBitsSet .f32 c = false → FiniteWith c.operand (fun q => 0 < q) →
      exec (.oscSetFrequency c) s = .next (s.voiceAnswered c (V.setOsc o
        { V.osc o with
          base := c.operand
          eff := effOf s.params c.operand (V.osc o).detune (V.osc o).octave }) .ok 0#32)) ∧
    (reservedBitsSet .u32 c = true → exec (.oscSetMidiNote c) s = .next (s.rejected .reservedBits)) ∧
    (reservedBitsSet .u32 c = false → c.operand.toNat < 108 →
      exec (.oscSetMidiNote c) s = .next (s.voiceAnswered c (V.setOsc o
        { V.osc o with
          base := memReadNote s.params c.operand.toNat
          eff := effOf s.params (memReadNote s.params c.operand.toNat) (V.osc o).detune (V.osc o).octave }) .ok 0#32)) ∧
    (reservedBitsSet .u32 c = false → 108 ≤ c.operand.toNat →
      exec (.oscSetMidiNote c) s = .next (s.voiceAnswered c V .ok 0#32))

/-- OSC_SET_DETUNE accepts values in [-1, 1], stores rnd32 of half the value in DETUNE and recomputes EFF.
OSC_SET_OCTAVE accepts -3..2, stores it and recomputes EFF. Every other operand gives CONTRACT_VIOLATION. No other
field changes. Half of -0.0 and of 2^-149 is stored as +0.0, of -2^-149 as -0.0, of +-1.0 as +-0.5, and rnd32(-q)
is rnd32(q) with bit 31 inverted for every nonzero q. States R144, R145. -/
def Obligations.OscSetDetuneOctaveResult : Prop :=
  (rnd32 (val 0x80000000#32 / 2) = 0x00000000#32 ∧ rnd32 (val 0x00000001#32 / 2) = 0x00000000#32 ∧
    rnd32 (val 0x80000001#32 / 2) = 0x80000000#32 ∧ rnd32 (val 0x3F800000#32 / 2) = 0x3F000000#32 ∧
    rnd32 (val 0xBF800000#32 / 2) = 0xBF000000#32 ∧
    ∀ q : Rat, q ≠ 0 → rnd32 (-q) = rnd32 q ^^^ 0x80000000#32) ∧
  ∀ (c : CommandFields) (s : State) (V : Voice) (o : OscId), VoiceReached (.osc o) c s V →
    (reservedBitsSet .f32 c = true → exec (.oscSetDetune c) s = .next (s.rejected .reservedBits)) ∧
    (reservedBitsSet .f32 c = false → ¬FiniteWith c.operand (fun q => -1 ≤ q ∧ q ≤ 1) →
      exec (.oscSetDetune c) s = .next (s.rejected .contractViolation)) ∧
    (reservedBitsSet .f32 c = false → FiniteWith c.operand (fun q => -1 ≤ q ∧ q ≤ 1) →
      exec (.oscSetDetune c) s = .next (s.voiceAnswered c (V.setOsc o
        { V.osc o with
          detune := rnd32 (val c.operand / 2)
          eff := effOf s.params (V.osc o).base (rnd32 (val c.operand / 2)) (V.osc o).octave }) .ok 0#32)) ∧
    (reservedBitsSet .s32 c = true → exec (.oscSetOctave c) s = .next (s.rejected .reservedBits)) ∧
    (reservedBitsSet .s32 c = false → ¬(-3 ≤ c.operand.toInt ∧ c.operand.toInt ≤ 2) →
      exec (.oscSetOctave c) s = .next (s.rejected .contractViolation)) ∧
    (reservedBitsSet .s32 c = false → (-3 ≤ c.operand.toInt ∧ c.operand.toInt ≤ 2) →
      exec (.oscSetOctave c) s = .next (s.voiceAnswered c (V.setOsc o
        { V.osc o with
          octave := c.operand
          eff := effOf s.params (V.osc o).base (V.osc o).detune c.operand }) .ok 0#32))

/-- OSC_SET_MOD_DEPTH stores an operand with value in [0, 1] in DEPTH; OSC_SET_SEED stores a nonzero operand in NOISE.
Every other operand gives CONTRACT_VIOLATION. EFF, OUT, PHASE and every other field are unchanged. States R146,
R147. -/
def Obligations.OscSetDepthSeedResult : Prop :=
  ∀ (c : CommandFields) (s : State) (V : Voice) (o : OscId), VoiceReached (.osc o) c s V →
    (reservedBitsSet .f32 c = true → exec (.oscSetModDepth c) s = .next (s.rejected .reservedBits)) ∧
    (reservedBitsSet .f32 c = false → ¬FiniteWith c.operand (fun q => 0 ≤ q ∧ q ≤ 1) →
      exec (.oscSetModDepth c) s = .next (s.rejected .contractViolation)) ∧
    (reservedBitsSet .f32 c = false → FiniteWith c.operand (fun q => 0 ≤ q ∧ q ≤ 1) →
      exec (.oscSetModDepth c) s = .next (s.voiceAnswered c (V.setOsc o { V.osc o with depth := c.operand }) .ok 0#32)) ∧
    (reservedBitsSet .u32 c = true → exec (.oscSetSeed c) s = .next (s.rejected .reservedBits)) ∧
    (reservedBitsSet .u32 c = false → c.operand = 0#32 →
      exec (.oscSetSeed c) s = .next (s.rejected .contractViolation)) ∧
    (reservedBitsSet .u32 c = false → c.operand ≠ 0#32 →
      exec (.oscSetSeed c) s = .next (s.voiceAnswered c (V.setOsc o { V.osc o with noise := c.operand }) .ok 0#32))

/-- OSC_ADVANCE runs osc_step on the addressed oscillator only, with the current LFO_VCO.OUT as modulator for VCO1 and
VCO2 and none for the LFOs, and answers OK also for a held sample. OSC_READ answers OUT and changes nothing.
States R148, R149. -/
def Obligations.OscAdvanceReadResult : Prop :=
  ∀ (c : CommandFields) (s : State) (V : Voice) (o : OscId), VoiceReached (.osc o) c s V →
    (reservedBitsSet .none c = true → exec (.oscAdvance c) s = .next (s.rejected .reservedBits)) ∧
    (reservedBitsSet .none c = false →
      exec (.oscAdvance c) s = .next (s.voiceAnswered c (V.setOsc o
        (oscStep s.params (V.osc o) (if o = .vco1 ∨ o = .vco2 then some V.lfoVco.out else none))) .ok 0#32)) ∧
    (reservedBitsSet .none c = true → exec (.oscRead c) s = .next (s.rejected .reservedBits)) ∧
    (reservedBitsSet .none c = false →
      exec (.oscRead c) s = .next (s.voiceAnswered c V .ok (V.osc o).out))

/-- The three times accept finite values of at least 0, the sustain level values in [0, 1]; each is stored as given in
its own field and no other field changes. Every other operand gives CONTRACT_VIOLATION. States R223, R224, R225,
R226. -/
def Obligations.EgSettersResult : Prop :=
  ∀ (c : CommandFields) (s : State) (V : Voice) (e : EgId), VoiceReached (.eg e) c s V →
    (reservedBitsSet .f32 c = true → exec (.egSetAttack c) s = .next (s.rejected .reservedBits)) ∧
    (reservedBitsSet .f32 c = false → ¬FiniteWith c.operand (fun q => 0 ≤ q) →
      exec (.egSetAttack c) s = .next (s.rejected .contractViolation)) ∧
    (reservedBitsSet .f32 c = false → FiniteWith c.operand (fun q => 0 ≤ q) →
      exec (.egSetAttack c) s = .next (s.voiceAnswered c (V.setEg e { V.eg e with attack := c.operand }) .ok 0#32)) ∧
    (reservedBitsSet .f32 c = true → exec (.egSetDecay c) s = .next (s.rejected .reservedBits)) ∧
    (reservedBitsSet .f32 c = false → ¬FiniteWith c.operand (fun q => 0 ≤ q) →
      exec (.egSetDecay c) s = .next (s.rejected .contractViolation)) ∧
    (reservedBitsSet .f32 c = false → FiniteWith c.operand (fun q => 0 ≤ q) →
      exec (.egSetDecay c) s = .next (s.voiceAnswered c (V.setEg e { V.eg e with decay := c.operand }) .ok 0#32)) ∧
    (reservedBitsSet .f32 c = true → exec (.egSetSustain c) s = .next (s.rejected .reservedBits)) ∧
    (reservedBitsSet .f32 c = false → ¬FiniteWith c.operand (fun q => 0 ≤ q ∧ q ≤ 1) →
      exec (.egSetSustain c) s = .next (s.rejected .contractViolation)) ∧
    (reservedBitsSet .f32 c = false → FiniteWith c.operand (fun q => 0 ≤ q ∧ q ≤ 1) →
      exec (.egSetSustain c) s = .next (s.voiceAnswered c (V.setEg e { V.eg e with sustain := c.operand }) .ok 0#32)) ∧
    (reservedBitsSet .f32 c = true → exec (.egSetRelease c) s = .next (s.rejected .reservedBits)) ∧
    (reservedBitsSet .f32 c = false → ¬FiniteWith c.operand (fun q => 0 ≤ q) →
      exec (.egSetRelease c) s = .next (s.rejected .contractViolation)) ∧
    (reservedBitsSet .f32 c = false → FiniteWith c.operand (fun q => 0 ≤ q) →
      exec (.egSetRelease c) s = .next (s.voiceAnswered c (V.setEg e { V.eg e with release := c.operand }) .ok 0#32))

/-- EG_NOTE_ON with a value in [0, 1] enters Attack from every state with PEAK the operand, SEG_START the current
level and SEG_COUNT 0, and rejects any other operand; EG_NOTE_OFF enters Release from every state with SEG_START
the current level and SEG_COUNT 0; neither changes LEVEL. EG_ADVANCE runs eg_step on this generator only; EG_READ
returns LEVEL and changes nothing. States R227, R228, R229, R230. -/
def Obligations.EgNotesAdvanceReadResult : Prop :=
  ∀ (c : CommandFields) (s : State) (V : Voice) (e : EgId), VoiceReached (.eg e) c s V →
    (reservedBitsSet .f32 c = true → exec (.egNoteOn c) s = .next (s.rejected .reservedBits)) ∧
    (reservedBitsSet .f32 c = false → ¬FiniteWith c.operand (fun q => 0 ≤ q ∧ q ≤ 1) →
      exec (.egNoteOn c) s = .next (s.rejected .contractViolation)) ∧
    (reservedBitsSet .f32 c = false → FiniteWith c.operand (fun q => 0 ≤ q ∧ q ≤ 1) →
      exec (.egNoteOn c) s = .next (s.voiceAnswered c (V.setEg e
        { V.eg e with state := .attack, peak := c.operand, segStart := (V.eg e).level, segCount := 0#32 }) .ok 0#32)) ∧
    (reservedBitsSet .none c = true → exec (.egNoteOff c) s = .next (s.rejected .reservedBits)) ∧
    (reservedBitsSet .none c = false →
      exec (.egNoteOff c) s = .next (s.voiceAnswered c (V.setEg e
        { V.eg e with state := .release, segStart := (V.eg e).level, segCount := 0#32 }) .ok 0#32)) ∧
    (reservedBitsSet .none c = true → exec (.egAdvance c) s = .next (s.rejected .reservedBits)) ∧
    (reservedBitsSet .none c = false →
      exec (.egAdvance c) s = .next (s.voiceAnswered c (V.setEg e (egStep s.params (V.eg e))) .ok 0#32)) ∧
    (reservedBitsSet .none c = true → exec (.egRead c) s = .next (s.rejected .reservedBits)) ∧
    (reservedBitsSet .none c = false →
      exec (.egRead c) s = .next (s.voiceAnswered c V .ok (V.eg e).level))

/-- VCF_SET_CUTOFF accepts finite positive values, VCF_SET_RESONANCE and VCF_SET_MOD_VOLUME values in [0, 1]; each
stores its operand in its own field, leaves the delay line, and rejects any other operand with CONTRACT_VIOLATION.
VCF_ADVANCE runs vcf_step with the current MIX.OUT, LFO_VCF.OUT and EG_VCF.LEVEL and advances nothing else;
VCF_READ returns OUT and changes nothing. States R254, R255, R256, R257, R258. -/
def Obligations.VcfCommandsResult : Prop :=
  ∀ (c : CommandFields) (s : State) (V : Voice), VoiceReached .vcf c s V →
    (reservedBitsSet .f32 c = true → exec (.vcfSetCutoff c) s = .next (s.rejected .reservedBits)) ∧
    (reservedBitsSet .f32 c = false → ¬FiniteWith c.operand (fun q => 0 < q) →
      exec (.vcfSetCutoff c) s = .next (s.rejected .contractViolation)) ∧
    (reservedBitsSet .f32 c = false → FiniteWith c.operand (fun q => 0 < q) →
      exec (.vcfSetCutoff c) s = .next (s.voiceAnswered c { V with vcf := { V.vcf with cutoff := c.operand } } .ok 0#32)) ∧
    (reservedBitsSet .f32 c = true → exec (.vcfSetResonance c) s = .next (s.rejected .reservedBits)) ∧
    (reservedBitsSet .f32 c = false → ¬FiniteWith c.operand (fun q => 0 ≤ q ∧ q ≤ 1) →
      exec (.vcfSetResonance c) s = .next (s.rejected .contractViolation)) ∧
    (reservedBitsSet .f32 c = false → FiniteWith c.operand (fun q => 0 ≤ q ∧ q ≤ 1) →
      exec (.vcfSetResonance c) s = .next (s.voiceAnswered c { V with vcf := { V.vcf with resonance := c.operand } } .ok 0#32)) ∧
    (reservedBitsSet .f32 c = true → exec (.vcfSetModVolume c) s = .next (s.rejected .reservedBits)) ∧
    (reservedBitsSet .f32 c = false → ¬FiniteWith c.operand (fun q => 0 ≤ q ∧ q ≤ 1) →
      exec (.vcfSetModVolume c) s = .next (s.rejected .contractViolation)) ∧
    (reservedBitsSet .f32 c = false → FiniteWith c.operand (fun q => 0 ≤ q ∧ q ≤ 1) →
      exec (.vcfSetModVolume c) s = .next (s.voiceAnswered c { V with vcf := { V.vcf with modvol := c.operand } } .ok 0#32)) ∧
    (reservedBitsSet .none c = true → exec (.vcfAdvance c) s = .next (s.rejected .reservedBits)) ∧
    (reservedBitsSet .none c = false →
      exec (.vcfAdvance c) s = .next (s.voiceAnswered c { V with
        vcf := vcfStep s.params V.vcf V.mix.out V.lfoVcf.out V.egVcf.level } .ok 0#32)) ∧
    (reservedBitsSet .none c = true → exec (.vcfRead c) s = .next (s.rejected .reservedBits)) ∧
    (reservedBitsSet .none c = false →
      exec (.vcfRead c) s = .next (s.voiceAnswered c V .ok V.vcf.out))

/-- VCA_SET_MOD_VOLUME stores a value in [0, 1] and rejects any other; VCA_ADVANCE writes OUT = rnd32(VCF.OUT x
EG_VCA.LEVEL x (1 - MODVOL x (1 - LFO_VCA.OUT) / 2)) from the current inputs; MIX_ADVANCE writes OUT =
rnd32((VCO1.OUT + VCO2.OUT) / 2); VCA_READ and MIX_READ return OUT. Nothing else changes. States R271, R272, R273,
R274, R280, R281, R282. -/
def Obligations.AmpMixCommandsResult : Prop :=
  (∀ (c : CommandFields) (s : State) (V : Voice), VoiceReached .vca c s V →
    (reservedBitsSet .f32 c = true → exec (.vcaSetModVolume c) s = .next (s.rejected .reservedBits)) ∧
    (reservedBitsSet .f32 c = false → ¬FiniteWith c.operand (fun q => 0 ≤ q ∧ q ≤ 1) →
      exec (.vcaSetModVolume c) s = .next (s.rejected .contractViolation)) ∧
    (reservedBitsSet .f32 c = false → FiniteWith c.operand (fun q => 0 ≤ q ∧ q ≤ 1) →
      exec (.vcaSetModVolume c) s = .next (s.voiceAnswered c { V with vca := { V.vca with modvol := c.operand } } .ok 0#32)) ∧
    (reservedBitsSet .none c = true → exec (.vcaAdvance c) s = .next (s.rejected .reservedBits)) ∧
    (reservedBitsSet .none c = false →
      exec (.vcaAdvance c) s = .next (s.voiceAnswered c { V with
        vca := { V.vca with
          out := rnd32 (val V.vcf.out * val V.egVca.level * (1 - val V.vca.modvol * (1 - val V.lfoVca.out) / 2)) } } .ok 0#32)) ∧
    (reservedBitsSet .none c = true → exec (.vcaRead c) s = .next (s.rejected .reservedBits)) ∧
    (reservedBitsSet .none c = false →
      exec (.vcaRead c) s = .next (s.voiceAnswered c V .ok V.vca.out))) ∧
  (∀ (c : CommandFields) (s : State) (V : Voice), VoiceReached .mix c s V →
    (reservedBitsSet .none c = true → exec (.mixAdvance c) s = .next (s.rejected .reservedBits)) ∧
    (reservedBitsSet .none c = false →
      exec (.mixAdvance c) s = .next (s.voiceAnswered c { V with mix := { out := rnd32 ((val V.vco1.out + val V.vco2.out) / 2) } } .ok 0#32)) ∧
    (reservedBitsSet .none c = true → exec (.mixRead c) s = .next (s.rejected .reservedBits)) ∧
    (reservedBitsSet .none c = false →
      exec (.mixRead c) s = .next (s.voiceAnswered c V .ok V.mix.out)))

/-- A key above 127 or a velocity outside 1..127 gives CONTRACT_VIOLATION. Otherwise KEY is the key, both envelope
generators enter Attack with PEAK = rnd32(velocity / 127), SEG_START their level and SEG_COUNT 0; for a key below
108 both VCOs take the note table entry as BASE and recompute EFF, for a key of 108..127 they keep their pitch;
nothing else changes. Every velocity level lies in (0, 1], with the three values of R191. States R191, R192. -/
def Obligations.VoiceNoteOnResult : Prop :=
  ∀ (c : CommandFields) (s : State) (V : Voice), VoiceReached .voice c s V →
    let key : BitVec 8 := c.operand.extractLsb' 0 8
    let vel : BitVec 8 := c.operand.extractLsb' 8 8
    let peak := rnd32 ((vel.toNat : Rat) / 127)
    let note := memReadNote s.params key.toNat
    let W : Voice :=
      { V with
        key := key
        egVcf := { V.egVcf with state := .attack, peak := peak, segStart := V.egVcf.level, segCount := 0#32 }
        egVca := { V.egVca with state := .attack, peak := peak, segStart := V.egVca.level, segCount := 0#32 } }
    (reservedBitsSet .keyvel c = true → exec (.voiceNoteOn c) s = .next (s.rejected .reservedBits)) ∧
    (reservedBitsSet .keyvel c = false → 127 < key.toNat ∨ vel.toNat = 0 ∨ 127 < vel.toNat →
      exec (.voiceNoteOn c) s = .next (s.rejected .contractViolation)) ∧
    (reservedBitsSet .keyvel c = false → key.toNat < 108 → 1 ≤ vel.toNat → vel.toNat ≤ 127 →
      exec (.voiceNoteOn c) s = .next (s.voiceAnswered c { W with
        vco1 := { V.vco1 with base := note, eff := effOf s.params note V.vco1.detune V.vco1.octave }
        vco2 := { V.vco2 with base := note, eff := effOf s.params note V.vco2.detune V.vco2.octave } } .ok 0#32)) ∧
    (reservedBitsSet .keyvel c = false → 108 ≤ key.toNat → key.toNat ≤ 127 → 1 ≤ vel.toNat → vel.toNat ≤ 127 →
      exec (.voiceNoteOn c) s = .next (s.voiceAnswered c W .ok 0#32)) ∧
    (1 ≤ vel.toNat → vel.toNat ≤ 127 → FiniteWith peak (fun q => 0 < q ∧ q ≤ 1)) ∧
    (vel.toNat = 127 → peak = 0x3F800000#32) ∧
    (vel.toNat = 100 → peak = 0x3F499326#32) ∧
    (vel.toNat = 1 → peak = 0x3C010204#32)

/-- VOICE_NOTE_OFF puts both envelope generators in Release from their current level and keeps KEY; VOICE_ADVANCE runs
the whole graph once; VOICE_READ returns VCA.OUT; VOICE_STATE returns 0, 1 or 2 for EG_VCA Idle, any of Attack,
Decay and Sustain, or Release; VOICE_KEY returns KEY while EG_VCA is not Idle, else 0xFF. Nothing else changes.
States R193, R194, R195, R204, R205. -/
def Obligations.VoiceCommandsResult : Prop :=
  ∀ (c : CommandFields) (s : State) (V : Voice), VoiceReached .voice c s V →
    (reservedBitsSet .none c = true → exec (.voiceNoteOff c) s = .next (s.rejected .reservedBits)) ∧
    (reservedBitsSet .none c = false →
      exec (.voiceNoteOff c) s = .next (s.voiceAnswered c { V with
        egVcf := { V.egVcf with state := .release, segStart := V.egVcf.level, segCount := 0#32 }
        egVca := { V.egVca with state := .release, segStart := V.egVca.level, segCount := 0#32 } } .ok 0#32)) ∧
    (reservedBitsSet .none c = true → exec (.voiceAdvance c) s = .next (s.rejected .reservedBits)) ∧
    (reservedBitsSet .none c = false →
      exec (.voiceAdvance c) s = .next (s.voiceAnswered c (voiceStep s.params V) .ok 0#32)) ∧
    (reservedBitsSet .none c = true → exec (.voiceRead c) s = .next (s.rejected .reservedBits)) ∧
    (reservedBitsSet .none c = false →
      exec (.voiceRead c) s = .next (s.voiceAnswered c V .ok V.vca.out)) ∧
    (reservedBitsSet .none c = true → exec (.voiceState c) s = .next (s.rejected .reservedBits)) ∧
    (reservedBitsSet .none c = false →
      exec (.voiceState c) s = .next (s.voiceAnswered c V .ok (if V.egVca.state = .idle then 0#32 else if V.egVca.state = .release then 2#32 else 1#32))) ∧
    (reservedBitsSet .none c = true → exec (.voiceKey c) s = .next (s.rejected .reservedBits)) ∧
    (reservedBitsSet .none c = false →
      exec (.voiceKey c) s = .next (s.voiceAnswered c V .ok (if V.egVca.state ≠ .idle then V.key.setWidth 32 else 0xFF#32)))

/-- For every state (either port) and every INST, UNIT, RSV and OPERAND, NOP answers OK with DATA 0 and changes
nothing but the response log of the port. States R321. -/
def Obligations.NopResult : Prop :=
  ∀ (c : CommandFields) (s : State), exec (.nop c) s = .next (s.withResponse s.port ⟨.ok, 0#32⟩)

/-- Codes 0 to 11 name the units in the order of R31 and 12 to 15 none; each oscillator and envelope name reads and
writes its own unit of the voice. Each unit has the registers of R323 in their order: nine for an oscillator and
an envelope generator, eight for the filter, two for the amplifier, one for the mixer and for the voice record,
five for a decoder, each word the stored field, narrow fields zero-extended. WAVE reads 0 to 6 for Sine, Square,
Sawtooth, Triangle, Pulse 1/8, Pulse 1/4, WhiteNoise; an envelope STATE 0 to 4 for Idle, Attack, Decay, Sustain,
Release; a decoder STATE 0 to 4 for Start, ReadAddress, ReadValue1, ReadValue2, ReadStop. States R31, R36, R221,
R323. -/
def Obligations.RegisterTable : Prop :=
  ((List.range 16).map (fun n => unitOfCode (BitVec.ofNat 4 n)) =
    [some (.osc .vco1), some (.osc .vco2), some (.osc .lfoVco), some (.osc .lfoVcf), some (.osc .lfoVca),
     some (.eg .vcf), some (.eg .vca), some .vcf, some .vca, some .mix, some .voice, some .dec,
     none, none, none, none]) ∧
  (∀ (V : Voice) (x : Osc),
    V.osc .vco1 = V.vco1 ∧ V.osc .vco2 = V.vco2 ∧ V.osc .lfoVco = V.lfoVco ∧ V.osc .lfoVcf = V.lfoVcf ∧
    V.osc .lfoVca = V.lfoVca ∧ V.setOsc .vco1 x = { V with vco1 := x } ∧ V.setOsc .vco2 x = { V with vco2 := x } ∧
    V.setOsc .lfoVco x = { V with lfoVco := x } ∧ V.setOsc .lfoVcf x = { V with lfoVcf := x } ∧
    V.setOsc .lfoVca x = { V with lfoVca := x }) ∧
  (∀ (V : Voice) (x : Eg),
    V.eg .vcf = V.egVcf ∧ V.eg .vca = V.egVca ∧ V.setEg .vcf x = { V with egVcf := x } ∧
    V.setEg .vca x = { V with egVca := x }) ∧
  (∀ (V : Voice) (o : OscId),
    voiceUnitRegs V (.osc o) =
      [(match (V.osc o).wave with
        | .sine => 0#32 | .square => 1#32 | .sawtooth => 2#32 | .triangle => 3#32 | .pulse8 => 4#32
        | .pulse4 => 5#32 | .noise => 6#32), (V.osc o).base, (V.osc o).eff, (V.osc o).detune, (V.osc o).octave,
       (V.osc o).depth, (V.osc o).phase, (V.osc o).out, (V.osc o).noise]) ∧
  (∀ (V : Voice) (e : EgId),
    voiceUnitRegs V (.eg e) =
      [(match (V.eg e).state with
        | .idle => 0#32 | .attack => 1#32 | .decay => 2#32 | .sustain => 3#32 | .release => 4#32), (V.eg e).level,
       (V.eg e).attack, (V.eg e).decay, (V.eg e).sustain,
       (V.eg e).release, (V.eg e).peak, (V.eg e).segStart, (V.eg e).segCount]) ∧
  (∀ V : Voice,
    voiceUnitRegs V .vcf =
      [V.vcf.cutoff, V.vcf.resonance, V.vcf.modvol, V.vcf.x1, V.vcf.x2, V.vcf.y1, V.vcf.y2, V.vcf.out] ∧
    voiceUnitRegs V .vca = [V.vca.modvol, V.vca.out] ∧ voiceUnitRegs V .mix = [V.mix.out] ∧
    voiceUnitRegs V .voice = [V.key.setWidth 32]) ∧
  (∀ D : Decoder,
    decRegs D =
      [(match D.state with
        | .start => 0#32 | .readAddress => 1#32 | .readValue1 => 2#32 | .readValue2 => 3#32 | .readStop => 4#32),
       D.address.setWidth 32, D.value.setWidth 32, D.frameErr, D.parityErr])

/-- For every unit of a voice on APORT and for a decoder on CPORT: an index below the number of registers answers OK
with that register word and changes nothing; a larger one answers CONTRACT_VIOLATION; a nonzero RSV answers
RESERVED_BITS. (The other port gives WRONG_PORT: see CheckOrder.) Derived from spec/46_system.md. -/
def Obligations.ReadRegResult : Prop :=
  (∀ (c : CommandFields) (s : State) (u : UnitId) (V : Voice), VoiceReached u c s V →
    (reservedBitsSet .regidx c = true → exec (.readReg c) s = .next (s.rejected .reservedBits)) ∧
    (reservedBitsSet .regidx c = false → (voiceUnitRegs V u).length ≤ c.operand.toNat →
      exec (.readReg c) s = .next (s.rejected .contractViolation)) ∧
    (reservedBitsSet .regidx c = false → ∀ w, (voiceUnitRegs V u)[c.operand.toNat]? = some w →
      exec (.readReg c) s = .next (s.voiceAnswered c V .ok w))) ∧
  (∀ (c : CommandFields) (s : State) (D : Decoder), DecoderReached c s D →
    (reservedBitsSet .regidx c = true → exec (.readReg c) s = .next (s.rejected .reservedBits)) ∧
    (reservedBitsSet .regidx c = false → (decRegs D).length ≤ c.operand.toNat →
      exec (.readReg c) s = .next (s.rejected .contractViolation)) ∧
    (reservedBitsSet .regidx c = false → ∀ w, (decRegs D)[c.operand.toNat]? = some w →
      exec (.readReg c) s = .next (s.decoderAnswered c D .ok w)))

/-- DEC_BYTE answers OK for every byte with the event word of dec_step and writes that decoder only;
DEC_CLEAR_COUNTERS sets FRAME_ERR and PARITY_ERR to 0 and leaves STATE, ADDRESS, VALUE and the event output; a
reserved bit gives RESERVED_BITS. States R292, R302. -/
def Obligations.DecoderCommandsResult : Prop :=
  ∀ (c : CommandFields) (s : State) (D : Decoder), DecoderReached c s D →
    (reservedBitsSet .byte c = true → exec (.decByte c) s = .next (s.rejected .reservedBits)) ∧
    (reservedBitsSet .byte c = false →
      exec (.decByte c) s =
        .next (s.decoderAnswered c (decStep D (c.operand.setWidth 8)).1 .ok
          (decData (decStep D (c.operand.setWidth 8)).2))) ∧
    (reservedBitsSet .none c = true → exec (.decClearCounters c) s = .next (s.rejected .reservedBits)) ∧
    (reservedBitsSet .none c = false →
      exec (.decClearCounters c) s =
        .next (s.decoderAnswered c { D with frameErr := 0#32, parityErr := 0#32 } .ok 0#32))

/-- At every SAMPLE_RATE of 45 to 2^24 the defaults meet all the requirements of R8, R24, R86, R90 and R252 (below 45
the default FC_MIN of 20.0 lies above the default FC_MAX). FC_MIN is 20.0, FC_MAX rnd32(0.45 x SAMPLE_RATE),
NOISE_SEED_RESET(v, u) is (v << 8) OR (u + 1), SINE_TABLE is the 360 words of R87, NOTE_TABLE the 108 words of
R91; EXP2 and BIQUAD_COEFFS are the model's default functions (what EXP2 computes is the statement
Exp2DefaultAccuracy). The state after reset has the defaults at 48000, with FC_MAX 21600.0, one voice and one
decoder, and BIQUAD_COEFFS gives there the five rows of R253. EXP2 and BIQUAD_COEFFS are computed from rational
series, the model's reading (log entries 7 and 8). Derived from R8, R24, R86, R87, R90, R91, R252, R253. -/
def Obligations.DefaultParametersLegal : Prop :=
  (∀ rate : Nat, 45 ≤ rate → rate ≤ 2 ^ 24 → ParamsLegal (defaultParamsAt rate)) ∧
  (∀ rate : Nat,
    (defaultParamsAt rate).sampleRate = rate ∧ (defaultParamsAt rate).fcMin = 0x41A00000#32 ∧
    (defaultParamsAt rate).fcMax = rnd32 (9 / 20 * (rate : Rat)) ∧
    (defaultParamsAt rate).exp2 = .correctlyRounded ∧ (defaultParamsAt rate).biquad = .rbjLowPass ∧
    (∀ v u : Nat, noiseSeedReset (defaultParamsAt rate) v u = BitVec.ofNat 32 (v * 2 ^ 8 ||| (u + 1))) ∧
    (defaultParamsAt rate).sineTable =
      [0x00000000#32, 0x3C8EF859#32, 0x3D0EF2C6#32, 0x3D565E3A#32, 0x3D8EDC7B#32, 0x3DB27EB6#32, 0x3DD61305#32, 0x3DF996A2#32,
       0x3E0E8365#32, 0x3E20305B#32, 0x3E31D0D4#32, 0x3E43636F#32, 0x3E54E6CD#32, 0x3E665992#32, 0x3E77BA60#32, 0x3E8483EE#32,
       0x3E8D2057#32, 0x3E95B1BE#32, 0x3E9E377A#32, 0x3EA6B0DF#32, 0x3EAF1D44#32, 0x3EB77C01#32, 0x3EBFCC6F#32, 0x3EC80DE9#32,
       0x3ED03FC9#32, 0x3ED8616C#32, 0x3EE0722F#32, 0x3EE87171#32, 0x3EF05E94#32, 0x3EF838F7#32, 0x3F000000#32, 0x3F03D989#32,
       0x3F07A8CA#32, 0x3F0B6D77#32, 0x3F0F2744#32, 0x3F12D5E8#32, 0x3F167918#32, 0x3F1A108D#32, 0x3F1D9BFE#32, 0x3F211B24#32,
       0x3F248DBB#32, 0x3F27F37C#32, 0x3F2B4C25#32, 0x3F2E9772#32, 0x3F31D522#32, 0x3F3504F3#32, 0x3F3826A7#32, 0x3F3B39FF#32,
       0x3F3E3EBD#32, 0x3F4134A6#32, 0x3F441B7D#32, 0x3F46F30A#32, 0x3F49BB13#32, 0x3F4C7360#32, 0x3F4F1BBD#32, 0x3F51B3F3#32,
       0x3F543BCE#32, 0x3F56B31D#32, 0x3F5919AE#32, 0x3F5B6F51#32, 0x3F5DB3D7#32, 0x3F5FE714#32, 0x3F6208DA#32, 0x3F641901#32,
       0x3F66175E#32, 0x3F6803CA#32, 0x3F69DE1D#32, 0x3F6BA635#32, 0x3F6D5BEC#32, 0x3F6EFF20#32, 0x3F708FB2#32, 0x3F720D81#32] ++
      [0x3F737871#32, 0x3F74D063#32, 0x3F76153F#32, 0x3F7746EA#32, 0x3F78654D#32, 0x3F797051#32, 0x3F7A67E2#32, 0x3F7B4BEB#32,
       0x3F7C1C5C#32, 0x3F7CD925#32, 0x3F7D8235#32, 0x3F7E1781#32, 0x3F7E98FD#32, 0x3F7F069E#32, 0x3F7F605C#32, 0x3F7FA62F#32,
       0x3F7FD814#32, 0x3F7FF605#32, 0x3F800000#32, 0x3F7FF605#32, 0x3F7FD814#32, 0x3F7FA62F#32, 0x3F7F605C#32, 0x3F7F069E#32,
       0x3F7E98FD#32, 0x3F7E1781#32, 0x3F7D8235#32, 0x3F7CD925#32, 0x3F7C1C5C#32, 0x3F7B4BEB#32, 0x3F7A67E2#32, 0x3F797051#32,
       0x3F78654D#32, 0x3F7746EA#32, 0x3F76153F#32, 0x3F74D063#32, 0x3F737871#32, 0x3F720D81#32, 0x3F708FB2#32, 0x3F6EFF20#32,
       0x3F6D5BEC#32, 0x3F6BA635#32, 0x3F69DE1D#32, 0x3F6803CA#32, 0x3F66175E#32, 0x3F641901#32, 0x3F6208DA#32, 0x3F5FE714#32,
       0x3F5DB3D7#32, 0x3F5B6F51#32, 0x3F5919AE#32, 0x3F56B31D#32, 0x3F543BCE#32, 0x3F51B3F3#32, 0x3F4F1BBD#32, 0x3F4C7360#32,
       0x3F49BB13#32, 0x3F46F30A#32, 0x3F441B7D#32, 0x3F4134A6#32, 0x3F3E3EBD#32, 0x3F3B39FF#32, 0x3F3826A7#32, 0x3F3504F3#32,
       0x3F31D522#32, 0x3F2E9772#32, 0x3F2B4C25#32, 0x3F27F37C#32, 0x3F248DBB#32, 0x3F211B24#32, 0x3F1D9BFE#32, 0x3F1A108D#32] ++
      [0x3F167918#32, 0x3F12D5E8#32, 0x3F0F2744#32, 0x3F0B6D77#32, 0x3F07A8CA#32, 0x3F03D989#32, 0x3F000000#32, 0x3EF838F7#32,
       0x3EF05E94#32, 0x3EE87171#32, 0x3EE0722F#32, 0x3ED8616C#32, 0x3ED03FC9#32, 0x3EC80DE9#32, 0x3EBFCC6F#32, 0x3EB77C01#32,
       0x3EAF1D44#32, 0x3EA6B0DF#32, 0x3E9E377A#32, 0x3E95B1BE#32, 0x3E8D2057#32, 0x3E8483EE#32, 0x3E77BA60#32, 0x3E665992#32,
       0x3E54E6CD#32, 0x3E43636F#32, 0x3E31D0D4#32, 0x3E20305B#32, 0x3E0E8365#32, 0x3DF996A2#32, 0x3DD61305#32, 0x3DB27EB6#32,
       0x3D8EDC7B#32, 0x3D565E3A#32, 0x3D0EF2C6#32, 0x3C8EF859#32, 0x00000000#32, 0xBC8EF859#32, 0xBD0EF2C6#32, 0xBD565E3A#32,
       0xBD8EDC7B#32, 0xBDB27EB6#32, 0xBDD61305#32, 0xBDF996A2#32, 0xBE0E8365#32, 0xBE20305B#32, 0xBE31D0D4#32, 0xBE43636F#32,
       0xBE54E6CD#32, 0xBE665992#32, 0xBE77BA60#32, 0xBE8483EE#32, 0xBE8D2057#32, 0xBE95B1BE#32, 0xBE9E377A#32, 0xBEA6B0DF#32,
       0xBEAF1D44#32, 0xBEB77C01#32, 0xBEBFCC6F#32, 0xBEC80DE9#32, 0xBED03FC9#32, 0xBED8616C#32, 0xBEE0722F#32, 0xBEE87171#32,
       0xBEF05E94#32, 0xBEF838F7#32, 0xBF000000#32, 0xBF03D989#32, 0xBF07A8CA#32, 0xBF0B6D77#32, 0xBF0F2744#32, 0xBF12D5E8#32] ++
      [0xBF167918#32, 0xBF1A108D#32, 0xBF1D9BFE#32, 0xBF211B24#32, 0xBF248DBB#32, 0xBF27F37C#32, 0xBF2B4C25#32, 0xBF2E9772#32,
       0xBF31D522#32, 0xBF3504F3#32, 0xBF3826A7#32, 0xBF3B39FF#32, 0xBF3E3EBD#32, 0xBF4134A6#32, 0xBF441B7D#32, 0xBF46F30A#32,
       0xBF49BB13#32, 0xBF4C7360#32, 0xBF4F1BBD#32, 0xBF51B3F3#32, 0xBF543BCE#32, 0xBF56B31D#32, 0xBF5919AE#32, 0xBF5B6F51#32,
       0xBF5DB3D7#32, 0xBF5FE714#32, 0xBF6208DA#32, 0xBF641901#32, 0xBF66175E#32, 0xBF6803CA#32, 0xBF69DE1D#32, 0xBF6BA635#32,
       0xBF6D5BEC#32, 0xBF6EFF20#32, 0xBF708FB2#32, 0xBF720D81#32, 0xBF737871#32, 0xBF74D063#32, 0xBF76153F#32, 0xBF7746EA#32,
       0xBF78654D#32, 0xBF797051#32, 0xBF7A67E2#32, 0xBF7B4BEB#32, 0xBF7C1C5C#32, 0xBF7CD925#32, 0xBF7D8235#32, 0xBF7E1781#32,
       0xBF7E98FD#32, 0xBF7F069E#32, 0xBF7F605C#32, 0xBF7FA62F#32, 0xBF7FD814#32, 0xBF7FF605#32, 0xBF800000#32, 0xBF7FF605#32,
       0xBF7FD814#32, 0xBF7FA62F#32, 0xBF7F605C#32, 0xBF7F069E#32, 0xBF7E98FD#32, 0xBF7E1781#32, 0xBF7D8235#32, 0xBF7CD925#32,
       0xBF7C1C5C#32, 0xBF7B4BEB#32, 0xBF7A67E2#32, 0xBF797051#32, 0xBF78654D#32, 0xBF7746EA#32, 0xBF76153F#32, 0xBF74D063#32] ++
      [0xBF737871#32, 0xBF720D81#32, 0xBF708FB2#32, 0xBF6EFF20#32, 0xBF6D5BEC#32, 0xBF6BA635#32, 0xBF69DE1D#32, 0xBF6803CA#32,
       0xBF66175E#32, 0xBF641901#32, 0xBF6208DA#32, 0xBF5FE714#32, 0xBF5DB3D7#32, 0xBF5B6F51#32, 0xBF5919AE#32, 0xBF56B31D#32,
       0xBF543BCE#32, 0xBF51B3F3#32, 0xBF4F1BBD#32, 0xBF4C7360#32, 0xBF49BB13#32, 0xBF46F30A#32, 0xBF441B7D#32, 0xBF4134A6#32,
       0xBF3E3EBD#32, 0xBF3B39FF#32, 0xBF3826A7#32, 0xBF3504F3#32, 0xBF31D522#32, 0xBF2E9772#32, 0xBF2B4C25#32, 0xBF27F37C#32,
       0xBF248DBB#32, 0xBF211B24#32, 0xBF1D9BFE#32, 0xBF1A108D#32, 0xBF167918#32, 0xBF12D5E8#32, 0xBF0F2744#32, 0xBF0B6D77#32,
       0xBF07A8CA#32, 0xBF03D989#32, 0xBF000000#32, 0xBEF838F7#32, 0xBEF05E94#32, 0xBEE87171#32, 0xBEE0722F#32, 0xBED8616C#32,
       0xBED03FC9#32, 0xBEC80DE9#32, 0xBEBFCC6F#32, 0xBEB77C01#32, 0xBEAF1D44#32, 0xBEA6B0DF#32, 0xBE9E377A#32, 0xBE95B1BE#32,
       0xBE8D2057#32, 0xBE8483EE#32, 0xBE77BA60#32, 0xBE665992#32, 0xBE54E6CD#32, 0xBE43636F#32, 0xBE31D0D4#32, 0xBE20305B#32,
       0xBE0E8365#32, 0xBDF996A2#32, 0xBDD61305#32, 0xBDB27EB6#32, 0xBD8EDC7B#32, 0xBD565E3A#32, 0xBD0EF2C6#32, 0xBC8EF859#32] ∧
    (defaultParamsAt rate).noteTable =
      [0x4102D013#32, 0x410A9760#32, 0x4112D517#32, 0x411B9041#32, 0x4124D054#32, 0x412E9D37#32, 0x4138FF49#32, 0x4143FF6A#32,
       0x414FA700#32, 0x415C0000#32, 0x416914F6#32, 0x4176F110#32, 0x4182D013#32, 0x418A9760#32, 0x4192D517#32, 0x419B9041#32,
       0x41A4D054#32, 0x41AE9D37#32, 0x41B8FF49#32, 0x41C3FF6A#32, 0x41CFA700#32, 0x41DC0000#32, 0x41E914F6#32, 0x41F6F110#32,
       0x4202D013#32, 0x420A9760#32, 0x4212D517#32, 0x421B9041#32, 0x4224D054#32, 0x422E9D37#32, 0x4238FF49#32, 0x4243FF6A#32,
       0x424FA700#32, 0x425C0000#32, 0x426914F6#32, 0x4276F110#32, 0x4282D013#32, 0x428A9760#32, 0x4292D517#32, 0x429B9041#32,
       0x42A4D054#32, 0x42AE9D37#32, 0x42B8FF49#32, 0x42C3FF6A#32, 0x42CFA700#32, 0x42DC0000#32, 0x42E914F6#32, 0x42F6F110#32,
       0x4302D013#32, 0x430A9760#32, 0x4312D517#32, 0x431B9041#32, 0x4324D054#32, 0x432E9D37#32] ++
      [0x4338FF49#32, 0x4343FF6A#32, 0x434FA700#32, 0x435C0000#32, 0x436914F6#32, 0x4376F110#32, 0x4382D013#32, 0x438A9760#32,
       0x4392D517#32, 0x439B9041#32, 0x43A4D054#32, 0x43AE9D37#32, 0x43B8FF49#32, 0x43C3FF6A#32, 0x43CFA700#32, 0x43DC0000#32,
       0x43E914F6#32, 0x43F6F110#32, 0x4402D013#32, 0x440A9760#32, 0x4412D517#32, 0x441B9041#32, 0x4424D054#32, 0x442E9D37#32,
       0x4438FF49#32, 0x4443FF6A#32, 0x444FA700#32, 0x445C0000#32, 0x446914F6#32, 0x4476F110#32, 0x4482D013#32, 0x448A9760#32,
       0x4492D517#32, 0x449B9041#32, 0x44A4D054#32, 0x44AE9D37#32, 0x44B8FF49#32, 0x44C3FF6A#32, 0x44CFA700#32, 0x44DC0000#32,
       0x44E914F6#32, 0x44F6F110#32, 0x4502D013#32, 0x450A9760#32, 0x4512D517#32, 0x451B9041#32, 0x4524D054#32, 0x452E9D37#32,
       0x4538FF49#32, 0x4543FF6A#32, 0x454FA700#32, 0x455C0000#32, 0x456914F6#32, 0x4576F110#32]) ∧
  State.reset.params = defaultParamsAt 48000 ∧ State.reset.params.fcMax = 0x46A8C000#32 ∧
  State.reset.voices.length = 1 ∧ State.reset.decoders.length = 1 ∧
  biquadOf State.reset.params 0x41A00000#32 0x00000000#32 =
    { b0 := 0x35E58DAA#32, b1 := 0x36658DAA#32, b2 := 0x35E58DAA#32, a1 := 0xBFFF86AE#32, a2 := 0x3F7F0DCF#32 } ∧
  biquadOf State.reset.params 0x447A0000#32 0x00000000#32 =
    { b0 := 0x3B8052DA#32, b1 := 0x3C0052DA#32, b2 := 0x3B8052DA#32, a1 := 0xBFE85D19#32, a2 := 0x3F54BCC8#32 } ∧
  biquadOf State.reset.params 0x447A0000#32 0x3F800000#32 =
    { b0 := 0x3B8B4230#32, b1 := 0x3C0B4230#32, b2 := 0x3B8B4230#32, a1 := 0xBFFC2A08#32, a2 := 0x3F7CAE21#32 } ∧
  biquadOf State.reset.params 0x469C4000#32 0x00000000#32 =
    { b0 := 0x3F30765E#32, b1 := 0x3FB0765E#32, b2 := 0x3F30765E#32, a1 := 0x3FA3CAFF#32, a2 := 0x3EF486F9#32 } ∧
  biquadOf State.reset.params 0x46A8C000#32 0x00000000#32 =
    { b0 := 0x3F4CF3A0#32, b1 := 0x3FCCF3A0#32, b2 := 0x3F4CF3A0#32, a1 := 0x3FC7CF71#32, a2 := 0x3F242F9D#32 }
end

