-- ==== Sys2Proof/Laws/Noise.lean ====
section
/-! SUPPORT. The noise generator as a field: a state is a polynomial over GF(2) with bit 31 the constant term, and
`lfsrStep` multiplies by x (R165). A power of `lfsrStep` is then one product, computed by squaring. -/

namespace Sys2Proof.Machine

@[simp] theorem lfsrStep_zero : lfsrStep 0#32 = 0#32 := by decide

/-- The step is linear. -/
theorem lfsrStep_xor (a b : BitVec 32) : lfsrStep (a ^^^ b) = lfsrStep a ^^^ lfsrStep b := by
  unfold lfsrStep
  rw [BitVec.getLsbD_xor, BitVec.ushiftRight_xor_distrib]
  cases a.getLsbD 0 <;> cases b.getLsbD 0 <;> simp only [Bool.xor_false, Bool.xor_true, Bool.not_false, Bool.not_true,
    if_true, if_false, Bool.false_eq_true]
  · ac_rfl
  · ac_rfl
  · rw [show (a >>> 1 ^^^ 0x80200003#32) ^^^ (b >>> 1 ^^^ 0x80200003#32) =
      (a >>> 1 ^^^ b >>> 1) ^^^ (0x80200003#32 ^^^ 0x80200003#32) by ac_rfl, BitVec.xor_self, BitVec.xor_zero]

/-- Bit 31 after a step is bit 0 before it. -/
theorem lfsrStep_getLsbD_31 (s : BitVec 32) : (lfsrStep s).getLsbD 31 = s.getLsbD 0 := by
  unfold lfsrStep
  cases h : s.getLsbD 0 <;> simp

/-- No two states have one successor (R166). -/
theorem lfsrStep_injective : Function.Injective lfsrStep := by
  intro a b h
  have h0 : a.getLsbD 0 = b.getLsbD 0 := by
    rw [← lfsrStep_getLsbD_31 a, ← lfsrStep_getLsbD_31 b, h]
  have h1 : a >>> 1 = b >>> 1 := by
    unfold lfsrStep at h
    rw [h0] at h
    cases hb : b.getLsbD 0 <;> rw [hb] at h <;> simpa using h
  apply BitVec.eq_of_getLsbD_eq
  intro i hi
  rcases i with _ | i
  · exact h0
  · have := congrArg (fun w => w.getLsbD i) h1
    simpa [BitVec.getLsbD_ushiftRight, Nat.add_comm] using this

/-- The polynomial 1. -/
def noiseOne : BitVec 32 := 0x80000000#32

/-- The first n Horner steps of the product: the coefficients of the highest powers come first. -/
def noiseMulUpTo (a b : BitVec 32) : Nat → BitVec 32
  | 0 => 0#32
  | n + 1 => lfsrStep (noiseMulUpTo a b n) ^^^ (if b.getLsbD n then a else 0#32)

/-- The product of two states as polynomials. -/
def noiseMul (a b : BitVec 32) : BitVec 32 := noiseMulUpTo a b 32

/-- A linear map that commutes with the step. -/
structure NoiseLinear (F : BitVec 32 → BitVec 32) : Prop where
  xor : ∀ a b, F (a ^^^ b) = F a ^^^ F b
  step : ∀ a, F (lfsrStep a) = lfsrStep (F a)

variable {F : BitVec 32 → BitVec 32}

theorem NoiseLinear.zero (h : NoiseLinear F) : F 0#32 = 0#32 := by
  have := h.xor 0#32 0#32
  rwa [BitVec.xor_self, BitVec.xor_self] at this

theorem NoiseLinear.mulUpTo (h : NoiseLinear F) (a b : BitVec 32) (n : Nat) :
    F (noiseMulUpTo a b n) = noiseMulUpTo (F a) b n := by
  induction n with
  | zero => exact h.zero
  | succ n ih =>
    rw [noiseMulUpTo, noiseMulUpTo, h.xor, h.step, ih]
    cases b.getLsbD n <;> simp [h.zero]

/-- Such a map passes through a product. -/
theorem NoiseLinear.mul (h : NoiseLinear F) (a b : BitVec 32) : F (noiseMul a b) = noiseMul (F a) b :=
  h.mulUpTo a b 32

theorem NoiseLinear.iterate (n : Nat) : NoiseLinear lfsrStep^[n] := by
  induction n with
  | zero => exact ⟨fun _ _ => rfl, fun _ => rfl⟩
  | succ n ih =>
    refine ⟨fun a b => ?_, fun a => ?_⟩
    · simp only [Function.iterate_succ_apply, lfsrStep_xor, ih.xor]
    · rw [Function.iterate_succ_apply, ih.step, Function.iterate_succ_apply]

theorem NoiseLinear.mulRight (c : BitVec 32) : NoiseLinear (noiseMul · c) := by
  have key : ∀ n, NoiseLinear (noiseMulUpTo · c n) := by
    intro n
    induction n with
    | zero => exact ⟨fun _ _ => (BitVec.xor_self (x := 0#32)).symm, fun _ => lfsrStep_zero.symm⟩
    | succ n ih =>
      refine ⟨fun a b => ?_, fun a => ?_⟩
      · simp only [noiseMulUpTo]
        rw [ih.xor, lfsrStep_xor]
        cases c.getLsbD n
        · simp
        · simp only [if_true]; ac_rfl
      · simp only [noiseMulUpTo]
        rw [ih.step, lfsrStep_xor (lfsrStep _)]
        cases c.getLsbD n <;> simp
  exact key 32

theorem noiseOne_mul (b : BitVec 32) : noiseMul noiseOne b = b := by
  have key : ∀ n, n ≤ 32 → noiseMulUpTo noiseOne b n = b <<< (32 - n) := by
    intro n
    induction n with
    | zero => intro _; simp [noiseMulUpTo]
    | succ n ih =>
      intro hn
      have h0 : (b <<< (32 - n)).getLsbD 0 = false := by simp; omega
      rw [noiseMulUpTo, ih (by omega), lfsrStep, h0]
      apply BitVec.eq_of_getLsbD_eq
      intro i hi
      have h1 : (noiseOne).getLsbD i = decide (i = 31) := by
        unfold noiseOne; interval_cases i <;> rfl
      have h2 : (if b.getLsbD n = true then noiseOne else 0#32).getLsbD i = (b.getLsbD n && decide (i = 31)) := by
        cases b.getLsbD n <;> simp [h1]
      simp only [Bool.false_eq_true, if_false, BitVec.getLsbD_xor, h2, BitVec.getLsbD_ushiftRight,
        BitVec.getLsbD_shiftLeft]
      rw [show 32 - (n + 1) = 31 - n by omega]
      by_cases h31 : i = 31
      · subst h31
        simp [show 31 - (31 - n) = n by omega, show ¬31 < 31 - n by omega]
      · by_cases hlt : i < 31 - n
        · simp [h31, hlt, show 1 + i < 32 - n by omega]
        · simp [h31, hlt, hi, show 1 + i < 32 by omega, show ¬1 + i < 32 - n by omega,
            show 1 + i - (32 - n) = i - (31 - n) by omega]
  simpa [noiseMul] using key 32 (Nat.le_refl _)

theorem noiseMul_comm (a b : BitVec 32) : noiseMul a b = noiseMul b a := by
  have h := (NoiseLinear.mulRight b).mul noiseOne a
  rwa [noiseOne_mul, noiseOne_mul] at h

theorem noiseMul_assoc (a b c : BitVec 32) : noiseMul (noiseMul a b) c = noiseMul a (noiseMul b c) := by
  have h := (NoiseLinear.mulRight c).mul b a
  rw [noiseMul_comm a b, h, noiseMul_comm]

/-- n steps are one product with the n-th power of x. -/
theorem lfsrStep_iterate (n : Nat) (s : BitVec 32) :
    lfsrStep^[n] s = noiseMul (lfsrStep^[n] noiseOne) s := by
  have h := (NoiseLinear.iterate n).mul noiseOne s
  rwa [noiseOne_mul] at h

/-- A state that comes back after n steps is 0, when the n-th power of x differs from 1 by an invertible word. -/
theorem eq_zero_of_iterate_fixed {n : Nat} {power inverse s : BitVec 32} (hpower : lfsrStep^[n] noiseOne = power)
    (hinverse : noiseMul inverse (power ^^^ noiseOne) = noiseOne) (hs : lfsrStep^[n] s = s) : s = 0#32 := by
  rw [lfsrStep_iterate, hpower] at hs
  have hzero : noiseMul (power ^^^ noiseOne) s = 0#32 := by
    rw [(NoiseLinear.mulRight s).xor, hs, noiseOne_mul, BitVec.xor_self]
  rw [← noiseOne_mul s, ← hinverse, noiseMul_assoc, hzero, noiseMul_comm]
  exact (NoiseLinear.mulRight _).zero

/-- The number with these binary digits, the highest first. -/
def binaryNumber (digits : List Bool) : Nat := digits.foldl (fun n d => 2 * n + d.toNat) 0

/-- Every power written beside its binary digit is the square of the one before it, times x for the digit 1. The
kernel checks one product of two numerals at a time. -/
def noisePowersLink : BitVec 32 → List (Bool × BitVec 32) → Bool
  | _, [] => true
  | p, (d, q) :: rest =>
    decide ((if d then lfsrStep (noiseMul p p) else noiseMul p p) = q) && noisePowersLink q rest

/-- The last of such a list of powers is that many steps from 1. -/
theorem lfsrStep_iterate_of_link (l : List (Bool × BitVec 32)) (h : noisePowersLink noiseOne l = true) :
    lfsrStep^[binaryNumber (l.map (·.1))] noiseOne = (l.map (·.2)).getLastD noiseOne := by
  unfold binaryNumber
  have key : ∀ (n : Nat) (p : BitVec 32), noisePowersLink p l = true → lfsrStep^[n] noiseOne = p →
      lfsrStep^[(l.map (·.1)).foldl (fun n d => 2 * n + d.toNat) n] noiseOne = (l.map (·.2)).getLastD p := by
    clear h
    induction l with
    | nil => exact fun _ _ _ hp => hp
    | cons e l ih =>
      obtain ⟨d, q⟩ := e
      intro n p hl hp
      simp only [noisePowersLink, Bool.and_eq_true, decide_eq_true_eq] at hl
      have hsq : noiseMul p p = lfsrStep^[2 * n] noiseOne := by
        rw [← hp, ← lfsrStep_iterate, ← Function.iterate_add_apply, two_mul]
      rw [List.map_cons, List.map_cons, List.foldl_cons, List.getLastD_cons]
      apply ih _ _ hl.2
      rw [← hl.1, hsq]
      cases d
      · rfl
      · exact Function.iterate_succ_apply' lfsrStep (2 * n) noiseOne
  exact key 0 noiseOne h rfl

end Sys2Proof.Machine
end

