-- ==== Sys2Proof/Laws/Numerics.lean ====
section
/-! SUPPORT. Small lemmas about the numeric helpers: constants, clamps, range checks, table reads. -/

namespace Sys2Proof.Machine

@[simp] theorem val_plusZero : val plusZero = 0 := by decide +kernel
@[simp] theorem val_plusOne : val plusOne = 1 := by decide +kernel
@[simp] theorem val_minusOne : val minusOne = -1 := by decide +kernel
@[simp] theorem val_hz440 : val hz440 = 440 := by decide +kernel
@[simp] theorem rnd32_zero : rnd32 0 = plusZero := by decide +kernel
@[simp] theorem rnd32_one : rnd32 1 = plusOne := by decide +kernel
@[simp] theorem rnd32_neg_one : rnd32 (-1) = minusOne := by decide +kernel

/-- A clamped integer is one of three. -/
theorem clampNat_cases (x lo hi : Nat) :
    (x < lo ∧ clampNat x lo hi = lo) ∨ (lo ≤ x ∧ hi < x ∧ clampNat x lo hi = hi) ∨
    (lo ≤ x ∧ x ≤ hi ∧ clampNat x lo hi = x) := by
  unfold clampNat
  split
  · exact .inl ⟨‹_›, rfl⟩
  · split
    · exact .inr (.inl ⟨by omega, ‹_›, rfl⟩)
    · exact .inr (.inr ⟨by omega, by omega, rfl⟩)

theorem le_clampNat {lo hi : Nat} (h : lo ≤ hi) (x : Nat) : lo ≤ clampNat x lo hi := by
  rcases clampNat_cases x lo hi with ⟨-, h'⟩ | ⟨-, -, h'⟩ | ⟨h1, -, h'⟩ <;> omega

theorem clampNat_le {lo hi : Nat} (h : lo ≤ hi) (x : Nat) : clampNat x lo hi ≤ hi := by
  rcases clampNat_cases x lo hi with ⟨-, h'⟩ | ⟨-, -, h'⟩ | ⟨-, h1, h'⟩ <;> omega

/-- A clamped word is one of three. -/
theorem clampF32_cases (x lo hi : F32) :
    (f32Lt x lo = true ∧ clampF32 x lo hi = lo) ∨
    (f32Lt x lo = false ∧ f32Lt hi x = true ∧ clampF32 x lo hi = hi) ∨
    (f32Lt x lo = false ∧ f32Lt hi x = false ∧ clampF32 x lo hi = x) := by
  unfold clampF32
  cases f32Lt x lo <;> cases f32Lt hi x <;> simp

/-- The range check on a word, as propositions. -/
theorem f32Within_iff {w : F32} {lo hi : Rat} :
    f32Within w lo hi = true ↔ f32Finite w = true ∧ lo ≤ val w ∧ val w ≤ hi := by
  simp [f32Within, and_assoc]

theorem f32FinitePositive_iff {w : F32} : f32FinitePositive w = true ↔ f32Finite w = true ∧ 0 < val w := by
  simp [f32FinitePositive]

theorem f32FiniteNonneg_iff {w : F32} : f32FiniteNonneg w = true ↔ f32Finite w = true ∧ 0 ≤ val w := by
  simp [f32FiniteNonneg]

/-- A word has a finite value with a property exactly when it is finite and its value has it. -/
theorem finiteWith_iff {w : F32} {legal : Rat → Prop} : FiniteWith w legal ↔ f32Finite w = true ∧ legal (val w) := by
  unfold FiniteWith f32Value
  constructor
  · rintro ⟨q, h, hq⟩
    split at h
    · rename_i hf
      cases h
      exact ⟨hf, hq⟩
    · split at h <;> (try split at h) <;> cases h
  · rintro ⟨hf, hq⟩
    exact ⟨_, if_pos hf, hq⟩

/-- On finite words the order of words is the order of their values. -/
theorem f32Lt_finite {a b : F32} (ha : f32Finite a = true) (hb : f32Finite b = true) :
    f32Lt a b = decide (val a < val b) := by
  simp [f32Lt, f32Value, ha, hb, valueLt]

/-- A word has the finite value q exactly when it is finite and q is its value. -/
theorem f32Value_eq_finite {w : F32} {q : Rat} : f32Value w = .finite q ↔ f32Finite w = true ∧ val w = q := by
  simpa [FiniteWith] using finiteWith_iff (w := w) (legal := fun r => r = q)

/-- The default of FC_MAX at 48000 samples per second is 21600.0 (R8). -/
@[simp] theorem defaultParams_fcMax : defaultParams.fcMax = hz21600 := by decide +kernel

/-- A table of finite coefficients meets the requirement on BIQUAD_COEFFS (R252). -/
theorem biquadLegal_of_table {p : Params} {entries : List ((F32 × F32) × BiquadCoeffs)} {otherwise : BiquadCoeffs}
    (hp : p.biquad = .table entries otherwise) (hentries : ∀ e ∈ entries, coeffsFinite e.2 = true)
    (hotherwise : coeffsFinite otherwise = true) : BiquadLegal p := by
  intro fc r _ _
  simp only [biquadOf, hp]
  cases h : entries.lookup (fc, r) with
  | none => exact hotherwise
  | some k =>
    obtain ⟨l₁, l₂, hl, -⟩ := List.lookup_eq_some_iff.mp h
    exact hentries ((fc, r), k) (by rw [hl]; simp)

/-- A ROM read inside the ROM is the entry. -/
theorem memReadSine_eq {p : Params} {k : Nat} {w : F32} (h : p.sineTable[k]? = some w) : memReadSine p k = w := by
  simp [memReadSine, h]

theorem memReadNote_eq {p : Params} {n : Nat} {w : F32} (h : p.noteTable[n]? = some w) : memReadNote p n = w := by
  simp [memReadNote, h]

end Sys2Proof.Machine
end

