-- ==== Sys2Proof/Laws/State.lean ====
section
/-! SUPPORT. One lemma per field per update of the state and of a voice. -/

namespace Sys2Proof.Machine

variable (s : State)

@[simp] theorem State.setVoice_params (v : Nat) (V : Voice) : (s.setVoice v V).params = s.params := rfl
@[simp] theorem State.setVoice_voices (v : Nat) (V : Voice) : (s.setVoice v V).voices = s.voices.set v V := rfl
@[simp] theorem State.setVoice_decoders (v : Nat) (V : Voice) : (s.setVoice v V).decoders = s.decoders := rfl
@[simp] theorem State.setVoice_inputs (v : Nat) (V : Voice) : (s.setVoice v V).inputs = s.inputs := rfl
@[simp] theorem State.setVoice_port (v : Nat) (V : Voice) : (s.setVoice v V).port = s.port := rfl
@[simp] theorem State.setVoice_aportOut (v : Nat) (V : Voice) : (s.setVoice v V).aportOut = s.aportOut := rfl
@[simp] theorem State.setVoice_cportOut (v : Nat) (V : Voice) : (s.setVoice v V).cportOut = s.cportOut := rfl

@[simp] theorem State.setDecoder_params (d : Nat) (D : Decoder) : (s.setDecoder d D).params = s.params := rfl
@[simp] theorem State.setDecoder_voices (d : Nat) (D : Decoder) : (s.setDecoder d D).voices = s.voices := rfl
@[simp] theorem State.setDecoder_decoders (d : Nat) (D : Decoder) : (s.setDecoder d D).decoders = s.decoders.set d D := rfl
@[simp] theorem State.setDecoder_inputs (d : Nat) (D : Decoder) : (s.setDecoder d D).inputs = s.inputs := rfl
@[simp] theorem State.setDecoder_port (d : Nat) (D : Decoder) : (s.setDecoder d D).port = s.port := rfl
@[simp] theorem State.setDecoder_aportOut (d : Nat) (D : Decoder) : (s.setDecoder d D).aportOut = s.aportOut := rfl
@[simp] theorem State.setDecoder_cportOut (d : Nat) (D : Decoder) : (s.setDecoder d D).cportOut = s.cportOut := rfl

@[simp] theorem State.accept_params (p : Port) (rest : List HostInput) : (s.accept p rest).params = s.params := rfl
@[simp] theorem State.accept_voices (p : Port) (rest : List HostInput) : (s.accept p rest).voices = s.voices := rfl
@[simp] theorem State.accept_decoders (p : Port) (rest : List HostInput) : (s.accept p rest).decoders = s.decoders := rfl
@[simp] theorem State.accept_inputs (p : Port) (rest : List HostInput) : (s.accept p rest).inputs = rest := rfl
@[simp] theorem State.accept_port (p : Port) (rest : List HostInput) : (s.accept p rest).port = p := rfl
@[simp] theorem State.accept_aportOut (p : Port) (rest : List HostInput) : (s.accept p rest).aportOut = s.aportOut := rfl
@[simp] theorem State.accept_cportOut (p : Port) (rest : List HostInput) : (s.accept p rest).cportOut = s.cportOut := rfl

@[simp] theorem State.hostReset_params (rest : List HostInput) : (hostReset s rest).params = s.params := rfl
@[simp] theorem State.hostReset_voices (rest : List HostInput) : (hostReset s rest).voices = resetVoices s.params s.voices.length := rfl
@[simp] theorem State.hostReset_decoders (rest : List HostInput) : (hostReset s rest).decoders = resetDecoders s.decoders.length := rfl
@[simp] theorem State.hostReset_inputs (rest : List HostInput) : (hostReset s rest).inputs = rest := rfl
@[simp] theorem State.hostReset_port (rest : List HostInput) : (hostReset s rest).port = s.port := rfl
@[simp] theorem State.hostReset_aportOut (rest : List HostInput) : (hostReset s rest).aportOut = s.aportOut := rfl
@[simp] theorem State.hostReset_cportOut (rest : List HostInput) : (hostReset s rest).cportOut = s.cportOut := rfl

@[simp] theorem State.placeCommand_params (w : CommandWord) : (s.placeCommand w).params = s.params := rfl
@[simp] theorem State.placeCommand_voices (w : CommandWord) : (s.placeCommand w).voices = s.voices := rfl
@[simp] theorem State.placeCommand_decoders (w : CommandWord) : (s.placeCommand w).decoders = s.decoders := rfl
@[simp] theorem State.placeCommand_inputs (w : CommandWord) : (s.placeCommand w).inputs = .command (portOfWord w) w :: s.inputs := rfl
@[simp] theorem State.placeCommand_port (w : CommandWord) : (s.placeCommand w).port = s.port := rfl
@[simp] theorem State.placeCommand_aportOut (w : CommandWord) : (s.placeCommand w).aportOut = s.aportOut := rfl
@[simp] theorem State.placeCommand_cportOut (w : CommandWord) : (s.placeCommand w).cportOut = s.cportOut := rfl

@[simp] theorem State.voiceAnswered_params (c : CommandFields) (V : Voice) (st : Status) (d : BitVec 32) : (s.voiceAnswered c V st d).params = s.params := rfl
@[simp] theorem State.voiceAnswered_voices (c : CommandFields) (V : Voice) (st : Status) (d : BitVec 32) : (s.voiceAnswered c V st d).voices = s.voices.set c.inst.toNat V := rfl
@[simp] theorem State.voiceAnswered_decoders (c : CommandFields) (V : Voice) (st : Status) (d : BitVec 32) : (s.voiceAnswered c V st d).decoders = s.decoders := rfl
@[simp] theorem State.voiceAnswered_inputs (c : CommandFields) (V : Voice) (st : Status) (d : BitVec 32) : (s.voiceAnswered c V st d).inputs = s.inputs := rfl
@[simp] theorem State.voiceAnswered_port (c : CommandFields) (V : Voice) (st : Status) (d : BitVec 32) : (s.voiceAnswered c V st d).port = s.port := rfl
@[simp] theorem State.voiceAnswered_aportOut (c : CommandFields) (V : Voice) (st : Status) (d : BitVec 32) : (s.voiceAnswered c V st d).aportOut = s.aportOut ++ [⟨st, d⟩] := rfl
@[simp] theorem State.voiceAnswered_cportOut (c : CommandFields) (V : Voice) (st : Status) (d : BitVec 32) : (s.voiceAnswered c V st d).cportOut = s.cportOut := rfl

@[simp] theorem State.decoderAnswered_params (c : CommandFields) (D : Decoder) (st : Status) (d : BitVec 32) : (s.decoderAnswered c D st d).params = s.params := rfl
@[simp] theorem State.decoderAnswered_voices (c : CommandFields) (D : Decoder) (st : Status) (d : BitVec 32) : (s.decoderAnswered c D st d).voices = s.voices := rfl
@[simp] theorem State.decoderAnswered_decoders (c : CommandFields) (D : Decoder) (st : Status) (d : BitVec 32) : (s.decoderAnswered c D st d).decoders = s.decoders.set c.inst.toNat D := rfl
@[simp] theorem State.decoderAnswered_inputs (c : CommandFields) (D : Decoder) (st : Status) (d : BitVec 32) : (s.decoderAnswered c D st d).inputs = s.inputs := rfl
@[simp] theorem State.decoderAnswered_port (c : CommandFields) (D : Decoder) (st : Status) (d : BitVec 32) : (s.decoderAnswered c D st d).port = s.port := rfl
@[simp] theorem State.decoderAnswered_aportOut (c : CommandFields) (D : Decoder) (st : Status) (d : BitVec 32) : (s.decoderAnswered c D st d).aportOut = s.aportOut := rfl
@[simp] theorem State.decoderAnswered_cportOut (c : CommandFields) (D : Decoder) (st : Status) (d : BitVec 32) : (s.decoderAnswered c D st d).cportOut = s.cportOut ++ [⟨st, d⟩] := rfl

@[simp] theorem State.respond_params (st : Status) (d : BitVec 32) : (s.respond st d).params = s.params := by
  unfold State.respond; split <;> rfl
@[simp] theorem State.respond_voices (st : Status) (d : BitVec 32) : (s.respond st d).voices = s.voices := by
  unfold State.respond; split <;> rfl
@[simp] theorem State.respond_decoders (st : Status) (d : BitVec 32) : (s.respond st d).decoders = s.decoders := by
  unfold State.respond; split <;> rfl
@[simp] theorem State.respond_inputs (st : Status) (d : BitVec 32) : (s.respond st d).inputs = s.inputs := by
  unfold State.respond; split <;> rfl
@[simp] theorem State.respond_port (st : Status) (d : BitVec 32) : (s.respond st d).port = s.port := by
  unfold State.respond; split <;> rfl

theorem State.respond_aport (h : s.port = .aport) (st : Status) (d : BitVec 32) :
    s.respond st d = { s with aportOut := s.aportOut ++ [⟨st, d⟩] } := by
  unfold State.respond; rw [h]

theorem State.respond_cport (h : s.port = .cport) (st : Status) (d : BitVec 32) :
    s.respond st d = { s with cportOut := s.cportOut ++ [⟨st, d⟩] } := by
  unfold State.respond; rw [h]

/-- A response goes to the log of the command's port. -/
theorem State.respond_eq_withResponse (st : Status) (d : BitVec 32) :
    s.respond st d = s.withResponse s.port ⟨st, d⟩ := by
  unfold State.respond State.withResponse; cases s.port <;> rfl

@[simp] theorem State.withFetchWord_inputs (nbits w : Nat) :
    (s.withFetchWord nbits w).inputs =
      .command (portOfWord (BitVec.ofNat 64 (w % 2 ^ nbits))) (BitVec.ofNat 64 (w % 2 ^ nbits)) :: s.inputs := rfl

variable (V : Voice)

@[simp] theorem Voice.osc_setOsc_same (o : OscId) (x : Osc) : (V.setOsc o x).osc o = x := by
  cases o <;> rfl

theorem Voice.osc_setOsc_other {o o' : OscId} (x : Osc) (h : o ≠ o') : (V.setOsc o x).osc o' = V.osc o' := by
  cases o <;> cases o' <;> first | rfl | exact absurd rfl h

@[simp] theorem Voice.setOsc_osc_self (o : OscId) : V.setOsc o (V.osc o) = V := by
  cases o <;> rfl

@[simp] theorem Voice.eg_setEg_same (e : EgId) (x : Eg) : (V.setEg e x).eg e = x := by
  cases e <;> rfl

theorem Voice.eg_setEg_other {e e' : EgId} (x : Eg) (h : e ≠ e') : (V.setEg e x).eg e' = V.eg e' := by
  cases e <;> cases e' <;> first | rfl | exact absurd rfl h

@[simp] theorem Voice.setEg_eg_self (e : EgId) : V.setEg e (V.eg e) = V := by
  cases e <;> rfl

@[simp] theorem Voice.setOsc_egVcf (o : OscId) (x : Osc) : (V.setOsc o x).egVcf = V.egVcf := by cases o <;> rfl
@[simp] theorem Voice.setOsc_egVca (o : OscId) (x : Osc) : (V.setOsc o x).egVca = V.egVca := by cases o <;> rfl
@[simp] theorem Voice.setOsc_vcf (o : OscId) (x : Osc) : (V.setOsc o x).vcf = V.vcf := by cases o <;> rfl
@[simp] theorem Voice.setOsc_vca (o : OscId) (x : Osc) : (V.setOsc o x).vca = V.vca := by cases o <;> rfl
@[simp] theorem Voice.setOsc_mix (o : OscId) (x : Osc) : (V.setOsc o x).mix = V.mix := by cases o <;> rfl
@[simp] theorem Voice.setOsc_key (o : OscId) (x : Osc) : (V.setOsc o x).key = V.key := by cases o <;> rfl
@[simp] theorem Voice.setEg_vco1 (e : EgId) (x : Eg) : (V.setEg e x).vco1 = V.vco1 := by cases e <;> rfl
@[simp] theorem Voice.setEg_vco2 (e : EgId) (x : Eg) : (V.setEg e x).vco2 = V.vco2 := by cases e <;> rfl
@[simp] theorem Voice.setEg_lfoVco (e : EgId) (x : Eg) : (V.setEg e x).lfoVco = V.lfoVco := by cases e <;> rfl
@[simp] theorem Voice.setEg_lfoVcf (e : EgId) (x : Eg) : (V.setEg e x).lfoVcf = V.lfoVcf := by cases e <;> rfl
@[simp] theorem Voice.setEg_lfoVca (e : EgId) (x : Eg) : (V.setEg e x).lfoVca = V.lfoVca := by cases e <;> rfl
@[simp] theorem Voice.setEg_vcf (e : EgId) (x : Eg) : (V.setEg e x).vcf = V.vcf := by cases e <;> rfl
@[simp] theorem Voice.setEg_vca (e : EgId) (x : Eg) : (V.setEg e x).vca = V.vca := by cases e <;> rfl
@[simp] theorem Voice.setEg_mix (e : EgId) (x : Eg) : (V.setEg e x).mix = V.mix := by cases e <;> rfl
@[simp] theorem Voice.setEg_key (e : EgId) (x : Eg) : (V.setEg e x).key = V.key := by cases e <;> rfl

variable (p : Params)

@[simp] theorem Osc.refreshEff_wave (o : Osc) : (o.refreshEff p).wave = o.wave := by
  rw [Osc.refreshEff]
@[simp] theorem Osc.refreshEff_base (o : Osc) : (o.refreshEff p).base = o.base := by
  rw [Osc.refreshEff]
@[simp] theorem Osc.refreshEff_detune (o : Osc) : (o.refreshEff p).detune = o.detune := by
  rw [Osc.refreshEff]
@[simp] theorem Osc.refreshEff_octave (o : Osc) : (o.refreshEff p).octave = o.octave := by
  rw [Osc.refreshEff]
@[simp] theorem Osc.refreshEff_depth (o : Osc) : (o.refreshEff p).depth = o.depth := by
  rw [Osc.refreshEff]
@[simp] theorem Osc.refreshEff_phase (o : Osc) : (o.refreshEff p).phase = o.phase := by
  rw [Osc.refreshEff]
@[simp] theorem Osc.refreshEff_out (o : Osc) : (o.refreshEff p).out = o.out := by
  rw [Osc.refreshEff]
@[simp] theorem Osc.refreshEff_noise (o : Osc) : (o.refreshEff p).noise = o.noise := by
  rw [Osc.refreshEff]
@[simp] theorem Osc.refreshEff_eff (o : Osc) : (o.refreshEff p).eff = effOf p o.base o.detune o.octave := by
  rw [Osc.refreshEff]

@[simp] theorem stepLfoVco_vco1 : (stepLfoVco p V).vco1 = V.vco1 := by
  rw [stepLfoVco]
@[simp] theorem stepLfoVco_vco2 : (stepLfoVco p V).vco2 = V.vco2 := by
  rw [stepLfoVco]
@[simp] theorem stepLfoVco_lfoVcf : (stepLfoVco p V).lfoVcf = V.lfoVcf := by
  rw [stepLfoVco]
@[simp] theorem stepLfoVco_lfoVca : (stepLfoVco p V).lfoVca = V.lfoVca := by
  rw [stepLfoVco]
@[simp] theorem stepLfoVco_egVcf : (stepLfoVco p V).egVcf = V.egVcf := by
  rw [stepLfoVco]
@[simp] theorem stepLfoVco_egVca : (stepLfoVco p V).egVca = V.egVca := by
  rw [stepLfoVco]
@[simp] theorem stepLfoVco_vcf : (stepLfoVco p V).vcf = V.vcf := by
  rw [stepLfoVco]
@[simp] theorem stepLfoVco_vca : (stepLfoVco p V).vca = V.vca := by
  rw [stepLfoVco]
@[simp] theorem stepLfoVco_mix : (stepLfoVco p V).mix = V.mix := by
  rw [stepLfoVco]
@[simp] theorem stepLfoVco_key : (stepLfoVco p V).key = V.key := by
  rw [stepLfoVco]
@[simp] theorem stepVco1_vco2 : (stepVco1 p V).vco2 = V.vco2 := by
  rw [stepVco1]
@[simp] theorem stepVco1_lfoVco : (stepVco1 p V).lfoVco = V.lfoVco := by
  rw [stepVco1]
@[simp] theorem stepVco1_lfoVcf : (stepVco1 p V).lfoVcf = V.lfoVcf := by
  rw [stepVco1]
@[simp] theorem stepVco1_lfoVca : (stepVco1 p V).lfoVca = V.lfoVca := by
  rw [stepVco1]
@[simp] theorem stepVco1_egVcf : (stepVco1 p V).egVcf = V.egVcf := by
  rw [stepVco1]
@[simp] theorem stepVco1_egVca : (stepVco1 p V).egVca = V.egVca := by
  rw [stepVco1]
@[simp] theorem stepVco1_vcf : (stepVco1 p V).vcf = V.vcf := by
  rw [stepVco1]
@[simp] theorem stepVco1_vca : (stepVco1 p V).vca = V.vca := by
  rw [stepVco1]
@[simp] theorem stepVco1_mix : (stepVco1 p V).mix = V.mix := by
  rw [stepVco1]
@[simp] theorem stepVco1_key : (stepVco1 p V).key = V.key := by
  rw [stepVco1]
@[simp] theorem stepVco2_vco1 : (stepVco2 p V).vco1 = V.vco1 := by
  rw [stepVco2]
@[simp] theorem stepVco2_lfoVco : (stepVco2 p V).lfoVco = V.lfoVco := by
  rw [stepVco2]
@[simp] theorem stepVco2_lfoVcf : (stepVco2 p V).lfoVcf = V.lfoVcf := by
  rw [stepVco2]
@[simp] theorem stepVco2_lfoVca : (stepVco2 p V).lfoVca = V.lfoVca := by
  rw [stepVco2]
@[simp] theorem stepVco2_egVcf : (stepVco2 p V).egVcf = V.egVcf := by
  rw [stepVco2]
@[simp] theorem stepVco2_egVca : (stepVco2 p V).egVca = V.egVca := by
  rw [stepVco2]
@[simp] theorem stepVco2_vcf : (stepVco2 p V).vcf = V.vcf := by
  rw [stepVco2]
@[simp] theorem stepVco2_vca : (stepVco2 p V).vca = V.vca := by
  rw [stepVco2]
@[simp] theorem stepVco2_mix : (stepVco2 p V).mix = V.mix := by
  rw [stepVco2]
@[simp] theorem stepVco2_key : (stepVco2 p V).key = V.key := by
  rw [stepVco2]
@[simp] theorem stepMix_vco1 : (stepMix V).vco1 = V.vco1 := by
  rw [stepMix]
@[simp] theorem stepMix_vco2 : (stepMix V).vco2 = V.vco2 := by
  rw [stepMix]
@[simp] theorem stepMix_lfoVco : (stepMix V).lfoVco = V.lfoVco := by
  rw [stepMix]
@[simp] theorem stepMix_lfoVcf : (stepMix V).lfoVcf = V.lfoVcf := by
  rw [stepMix]
@[simp] theorem stepMix_lfoVca : (stepMix V).lfoVca = V.lfoVca := by
  rw [stepMix]
@[simp] theorem stepMix_egVcf : (stepMix V).egVcf = V.egVcf := by
  rw [stepMix]
@[simp] theorem stepMix_egVca : (stepMix V).egVca = V.egVca := by
  rw [stepMix]
@[simp] theorem stepMix_vcf : (stepMix V).vcf = V.vcf := by
  rw [stepMix]
@[simp] theorem stepMix_vca : (stepMix V).vca = V.vca := by
  rw [stepMix]
@[simp] theorem stepMix_key : (stepMix V).key = V.key := by
  rw [stepMix]
@[simp] theorem stepLfoVcf_vco1 : (stepLfoVcf p V).vco1 = V.vco1 := by
  rw [stepLfoVcf]
@[simp] theorem stepLfoVcf_vco2 : (stepLfoVcf p V).vco2 = V.vco2 := by
  rw [stepLfoVcf]
@[simp] theorem stepLfoVcf_lfoVco : (stepLfoVcf p V).lfoVco = V.lfoVco := by
  rw [stepLfoVcf]
@[simp] theorem stepLfoVcf_lfoVca : (stepLfoVcf p V).lfoVca = V.lfoVca := by
  rw [stepLfoVcf]
@[simp] theorem stepLfoVcf_egVcf : (stepLfoVcf p V).egVcf = V.egVcf := by
  rw [stepLfoVcf]
@[simp] theorem stepLfoVcf_egVca : (stepLfoVcf p V).egVca = V.egVca := by
  rw [stepLfoVcf]
@[simp] theorem stepLfoVcf_vcf : (stepLfoVcf p V).vcf = V.vcf := by
  rw [stepLfoVcf]
@[simp] theorem stepLfoVcf_vca : (stepLfoVcf p V).vca = V.vca := by
  rw [stepLfoVcf]
@[simp] theorem stepLfoVcf_mix : (stepLfoVcf p V).mix = V.mix := by
  rw [stepLfoVcf]
@[simp] theorem stepLfoVcf_key : (stepLfoVcf p V).key = V.key := by
  rw [stepLfoVcf]
@[simp] theorem stepEgVcf_vco1 : (stepEgVcf p V).vco1 = V.vco1 := by
  rw [stepEgVcf]
@[simp] theorem stepEgVcf_vco2 : (stepEgVcf p V).vco2 = V.vco2 := by
  rw [stepEgVcf]
@[simp] theorem stepEgVcf_lfoVco : (stepEgVcf p V).lfoVco = V.lfoVco := by
  rw [stepEgVcf]
@[simp] theorem stepEgVcf_lfoVcf : (stepEgVcf p V).lfoVcf = V.lfoVcf := by
  rw [stepEgVcf]
@[simp] theorem stepEgVcf_lfoVca : (stepEgVcf p V).lfoVca = V.lfoVca := by
  rw [stepEgVcf]
@[simp] theorem stepEgVcf_egVca : (stepEgVcf p V).egVca = V.egVca := by
  rw [stepEgVcf]
@[simp] theorem stepEgVcf_vcf : (stepEgVcf p V).vcf = V.vcf := by
  rw [stepEgVcf]
@[simp] theorem stepEgVcf_vca : (stepEgVcf p V).vca = V.vca := by
  rw [stepEgVcf]
@[simp] theorem stepEgVcf_mix : (stepEgVcf p V).mix = V.mix := by
  rw [stepEgVcf]
@[simp] theorem stepEgVcf_key : (stepEgVcf p V).key = V.key := by
  rw [stepEgVcf]
@[simp] theorem stepVcf_vco1 : (stepVcf p V).vco1 = V.vco1 := by
  rw [stepVcf]
@[simp] theorem stepVcf_vco2 : (stepVcf p V).vco2 = V.vco2 := by
  rw [stepVcf]
@[simp] theorem stepVcf_lfoVco : (stepVcf p V).lfoVco = V.lfoVco := by
  rw [stepVcf]
@[simp] theorem stepVcf_lfoVcf : (stepVcf p V).lfoVcf = V.lfoVcf := by
  rw [stepVcf]
@[simp] theorem stepVcf_lfoVca : (stepVcf p V).lfoVca = V.lfoVca := by
  rw [stepVcf]
@[simp] theorem stepVcf_egVcf : (stepVcf p V).egVcf = V.egVcf := by
  rw [stepVcf]
@[simp] theorem stepVcf_egVca : (stepVcf p V).egVca = V.egVca := by
  rw [stepVcf]
@[simp] theorem stepVcf_vca : (stepVcf p V).vca = V.vca := by
  rw [stepVcf]
@[simp] theorem stepVcf_mix : (stepVcf p V).mix = V.mix := by
  rw [stepVcf]
@[simp] theorem stepVcf_key : (stepVcf p V).key = V.key := by
  rw [stepVcf]
@[simp] theorem stepLfoVca_vco1 : (stepLfoVca p V).vco1 = V.vco1 := by
  rw [stepLfoVca]
@[simp] theorem stepLfoVca_vco2 : (stepLfoVca p V).vco2 = V.vco2 := by
  rw [stepLfoVca]
@[simp] theorem stepLfoVca_lfoVco : (stepLfoVca p V).lfoVco = V.lfoVco := by
  rw [stepLfoVca]
@[simp] theorem stepLfoVca_lfoVcf : (stepLfoVca p V).lfoVcf = V.lfoVcf := by
  rw [stepLfoVca]
@[simp] theorem stepLfoVca_egVcf : (stepLfoVca p V).egVcf = V.egVcf := by
  rw [stepLfoVca]
@[simp] theorem stepLfoVca_egVca : (stepLfoVca p V).egVca = V.egVca := by
  rw [stepLfoVca]
@[simp] theorem stepLfoVca_vcf : (stepLfoVca p V).vcf = V.vcf := by
  rw [stepLfoVca]
@[simp] theorem stepLfoVca_vca : (stepLfoVca p V).vca = V.vca := by
  rw [stepLfoVca]
@[simp] theorem stepLfoVca_mix : (stepLfoVca p V).mix = V.mix := by
  rw [stepLfoVca]
@[simp] theorem stepLfoVca_key : (stepLfoVca p V).key = V.key := by
  rw [stepLfoVca]
@[simp] theorem stepEgVca_vco1 : (stepEgVca p V).vco1 = V.vco1 := by
  rw [stepEgVca]
@[simp] theorem stepEgVca_vco2 : (stepEgVca p V).vco2 = V.vco2 := by
  rw [stepEgVca]
@[simp] theorem stepEgVca_lfoVco : (stepEgVca p V).lfoVco = V.lfoVco := by
  rw [stepEgVca]
@[simp] theorem stepEgVca_lfoVcf : (stepEgVca p V).lfoVcf = V.lfoVcf := by
  rw [stepEgVca]
@[simp] theorem stepEgVca_lfoVca : (stepEgVca p V).lfoVca = V.lfoVca := by
  rw [stepEgVca]
@[simp] theorem stepEgVca_egVcf : (stepEgVca p V).egVcf = V.egVcf := by
  rw [stepEgVca]
@[simp] theorem stepEgVca_vcf : (stepEgVca p V).vcf = V.vcf := by
  rw [stepEgVca]
@[simp] theorem stepEgVca_vca : (stepEgVca p V).vca = V.vca := by
  rw [stepEgVca]
@[simp] theorem stepEgVca_mix : (stepEgVca p V).mix = V.mix := by
  rw [stepEgVca]
@[simp] theorem stepEgVca_key : (stepEgVca p V).key = V.key := by
  rw [stepEgVca]
@[simp] theorem stepVca_vco1 : (stepVca V).vco1 = V.vco1 := by
  rw [stepVca]
@[simp] theorem stepVca_vco2 : (stepVca V).vco2 = V.vco2 := by
  rw [stepVca]
@[simp] theorem stepVca_lfoVco : (stepVca V).lfoVco = V.lfoVco := by
  rw [stepVca]
@[simp] theorem stepVca_lfoVcf : (stepVca V).lfoVcf = V.lfoVcf := by
  rw [stepVca]
@[simp] theorem stepVca_lfoVca : (stepVca V).lfoVca = V.lfoVca := by
  rw [stepVca]
@[simp] theorem stepVca_egVcf : (stepVca V).egVcf = V.egVcf := by
  rw [stepVca]
@[simp] theorem stepVca_egVca : (stepVca V).egVca = V.egVca := by
  rw [stepVca]
@[simp] theorem stepVca_vcf : (stepVca V).vcf = V.vcf := by
  rw [stepVca]
@[simp] theorem stepVca_mix : (stepVca V).mix = V.mix := by
  rw [stepVca]
@[simp] theorem stepVca_key : (stepVca V).key = V.key := by
  rw [stepVca]

end Sys2Proof.Machine
end

