-- ==== Sys2Proof/Laws/Ops.lean ====
section
/-! SUPPORT. One lemma per shared operation that says once everything it can do, and its value on a command that
passes the common checks. -/

namespace Sys2Proof.Machine

variable {α : Type} {s t : State} {c : CommandFields} {fmt : OperandFormat}

/-- A rejection answers a next state: the response is the only change. -/
theorem raise_eq (st : Status) (s : State) : raise st s = .next (s.respond st 0#32) := rfl

/-- Everything a voice command can do: reject with one status, or write one voice and answer OK. -/
theorem voiceCommand_cases {select : UnitId → Option α} {rule : α → Voice → Reply Voice}
    (h : voiceCommand select fmt c s rule = .next t) :
    (∃ st, st ≠ .ok ∧ t = s.respond st 0#32) ∨
    (∃ u a V V' d, unitOfCode c.unit = some u ∧ select u = some a ∧ s.port = unitPort u ∧
      s.voices[c.inst.toNat]? = some V ∧ reservedBitsSet fmt c = false ∧ rule a V = .ok V' d ∧
      t = (s.setVoice c.inst.toNat V').respond .ok d) := by
  unfold voiceCommand raise at h
  split at h
  · exact .inl ⟨_, by decide, (Host.Outcome.next.inj h).symm⟩
  · rename_i u hu
    split at h
    · exact .inl ⟨_, by decide, (Host.Outcome.next.inj h).symm⟩
    · rename_i a ha
      split at h
      · exact .inl ⟨_, by decide, (Host.Outcome.next.inj h).symm⟩
      · rename_i hp
        split at h
        · exact .inl ⟨_, by decide, (Host.Outcome.next.inj h).symm⟩
        · rename_i V hV
          split at h
          · exact .inl ⟨_, by decide, (Host.Outcome.next.inj h).symm⟩
          · rename_i hr
            split at h
            · exact .inl ⟨_, by decide, (Host.Outcome.next.inj h).symm⟩
            · rename_i V' d hrule
              exact .inr ⟨u, a, V, V', d, hu, ha, not_not.mp hp, hV, by simpa using hr, hrule,
                (Host.Outcome.next.inj h).symm⟩

/-- Everything a decoder command can do: reject with one status, or write one decoder and answer OK. -/
theorem decoderCommand_cases {select : UnitId → Option α} {rule : α → Decoder → Reply Decoder}
    (h : decoderCommand select fmt c s rule = .next t) :
    (∃ st, st ≠ .ok ∧ t = s.respond st 0#32) ∨
    (∃ u a D D' d, unitOfCode c.unit = some u ∧ select u = some a ∧ s.port = unitPort u ∧
      s.decoders[c.inst.toNat]? = some D ∧ reservedBitsSet fmt c = false ∧ rule a D = .ok D' d ∧
      t = (s.setDecoder c.inst.toNat D').respond .ok d) := by
  unfold decoderCommand raise at h
  split at h
  · exact .inl ⟨_, by decide, (Host.Outcome.next.inj h).symm⟩
  · rename_i u hu
    split at h
    · exact .inl ⟨_, by decide, (Host.Outcome.next.inj h).symm⟩
    · rename_i a ha
      split at h
      · exact .inl ⟨_, by decide, (Host.Outcome.next.inj h).symm⟩
      · rename_i hp
        split at h
        · exact .inl ⟨_, by decide, (Host.Outcome.next.inj h).symm⟩
        · rename_i D hD
          split at h
          · exact .inl ⟨_, by decide, (Host.Outcome.next.inj h).symm⟩
          · rename_i hr
            split at h
            · exact .inl ⟨_, by decide, (Host.Outcome.next.inj h).symm⟩
            · rename_i D' d hrule
              exact .inr ⟨u, a, D, D', d, hu, ha, not_not.mp hp, hD, by simpa using hr, hrule,
                (Host.Outcome.next.inj h).symm⟩

/-- A voice command never faults and never refuses. -/
theorem voiceCommand_answers (select : UnitId → Option α) (fmt : OperandFormat) (c : CommandFields) (s : State)
    (rule : α → Voice → Reply Voice) : ∃ t, voiceCommand select fmt c s rule = .next t := by
  unfold voiceCommand raise
  repeat' split
  all_goals exact ⟨_, rfl⟩

/-- A decoder command never faults and never refuses. -/
theorem decoderCommand_answers (select : UnitId → Option α) (fmt : OperandFormat) (c : CommandFields) (s : State)
    (rule : α → Decoder → Reply Decoder) : ∃ t, decoderCommand select fmt c s rule = .next t := by
  unfold decoderCommand raise
  repeat' split
  all_goals exact ⟨_, rfl⟩

/-- A voice command that reaches its target rejects a reserved bit, and else is its own rule. -/
theorem voiceCommand_of_reached {u : UnitId} {V : Voice} (h : VoiceReached u c s V)
    {select : UnitId → Option α} {a : α} (ha : select u = some a) (fmt : OperandFormat)
    (rule : α → Voice → Reply Voice) :
    voiceCommand select fmt c s rule =
      if reservedBitsSet fmt c then .next (s.rejected .reservedBits)
      else
        match rule a V with
        | .violation => .next (s.rejected .contractViolation)
        | .ok V' d => .next (s.voiceAnswered c V' .ok d) := by
  obtain ⟨hu, hdec, hp, hV⟩ := h
  have hport : ¬(s.port ≠ unitPort u) := by rw [hp]; cases u <;> first | exact absurd rfl hdec | simp [unitPort]
  simp only [voiceCommand, hu, ha, if_neg hport, hV]
  split
  · rw [raise_eq, State.respond_eq_withResponse]; rfl
  · cases hr : rule a V with
    | violation => rw [raise_eq, State.respond_eq_withResponse]; rfl
    | ok V' d =>
      simp only [State.respond_aport (s.setVoice c.inst.toNat V') hp]
      rfl

/-- A decoder command that reaches its target rejects a reserved bit, and else is its own rule. -/
theorem decoderCommand_of_reached {D : Decoder} (h : DecoderReached c s D)
    {select : UnitId → Option α} {a : α} (ha : select .dec = some a) (fmt : OperandFormat)
    (rule : α → Decoder → Reply Decoder) :
    decoderCommand select fmt c s rule =
      if reservedBitsSet fmt c then .next (s.rejected .reservedBits)
      else
        match rule a D with
        | .violation => .next (s.rejected .contractViolation)
        | .ok D' d => .next (s.decoderAnswered c D' .ok d) := by
  obtain ⟨hu, hp, hD⟩ := h
  have hport : ¬(s.port ≠ unitPort .dec) := by rw [hp]; simp [unitPort]
  simp only [decoderCommand, hu, ha, if_neg hport, hD]
  split
  · rw [raise_eq, State.respond_eq_withResponse]; rfl
  · cases hr : rule a D with
    | violation => rw [raise_eq, State.respond_eq_withResponse]; rfl
    | ok D' d =>
      simp only [State.respond_cport (s.setDecoder c.inst.toNat D') hp]
      rfl

/-- The units an opcode accepts, by name (R110). -/
@[simp] theorem selectOsc_isSome {u : UnitId} : (selectOsc u).isSome = true ↔ ∃ o, u = .osc o := by
  cases u <;> simp [selectOsc]

@[simp] theorem selectEg_isSome {u : UnitId} : (selectEg u).isSome = true ↔ ∃ e, u = .eg e := by
  cases u <;> simp [selectEg]

@[simp] theorem selectVcf_isSome {u : UnitId} : (selectVcf u).isSome = true ↔ u = .vcf := by
  cases u <;> simp [selectVcf]

@[simp] theorem selectVca_isSome {u : UnitId} : (selectVca u).isSome = true ↔ u = .vca := by
  cases u <;> simp [selectVca]

@[simp] theorem selectMix_isSome {u : UnitId} : (selectMix u).isSome = true ↔ u = .mix := by
  cases u <;> simp [selectMix]

@[simp] theorem selectVoice_isSome {u : UnitId} : (selectVoice u).isSome = true ↔ u = .voice := by
  cases u <;> simp [selectVoice]

@[simp] theorem selectDec_isSome {u : UnitId} : (selectDec u).isSome = true ↔ u = .dec := by
  cases u <;> simp [selectDec]

/-- A range check that holds stores. -/
@[simp] theorem checked_true {new : α} : checked true new = .ok new 0#32 := rfl

/-- A range check that fails rejects. -/
@[simp] theorem checked_false {new : α} : checked false new = .violation := rfl

/-- A command to an oscillator that reaches it is its rule on that unit. -/
theorem oscCommand_of_reached {V : Voice} {o : OscId} (h : VoiceReached (.osc o) c s V) (fmt : OperandFormat)
    (rule : Osc → Reply Osc) :
    oscCommand fmt c s rule =
      if reservedBitsSet fmt c then .next (s.rejected .reservedBits)
      else
        match rule (V.osc o) with
        | .violation => .next (s.rejected .contractViolation)
        | .ok x d => .next (s.voiceAnswered c (V.setOsc o x) .ok d) := by
  rw [oscCommand, voiceCommand_of_reached h (show selectOsc (.osc o) = some o from rfl)]
  cases rule (V.osc o) <;> rfl

/-- A command to an envelope generator that reaches it is its rule on that unit. -/
theorem egCommand_of_reached {V : Voice} {e : EgId} (h : VoiceReached (.eg e) c s V) (fmt : OperandFormat)
    (rule : Eg → Reply Eg) :
    egCommand fmt c s rule =
      if reservedBitsSet fmt c then .next (s.rejected .reservedBits)
      else
        match rule (V.eg e) with
        | .violation => .next (s.rejected .contractViolation)
        | .ok x d => .next (s.voiceAnswered c (V.setEg e x) .ok d) := by
  rw [egCommand, voiceCommand_of_reached h (show selectEg (.eg e) = some e from rfl)]
  cases rule (V.eg e) <;> rfl

/-- A command to the filter that reaches it is its rule on that unit. -/
theorem vcfCommand_of_reached {V : Voice} (h : VoiceReached .vcf c s V) (fmt : OperandFormat)
    (rule : Vcf → Reply Vcf) :
    vcfCommand fmt c s rule =
      if reservedBitsSet fmt c then .next (s.rejected .reservedBits)
      else
        match rule V.vcf with
        | .violation => .next (s.rejected .contractViolation)
        | .ok x d => .next (s.voiceAnswered c { V with vcf := x } .ok d) := by
  rw [vcfCommand, voiceCommand_of_reached h (show selectVcf .vcf = some () from rfl)]
  cases rule V.vcf <;> rfl

/-- A command to the amplifier that reaches it is its rule on that unit. -/
theorem vcaCommand_of_reached {V : Voice} (h : VoiceReached .vca c s V) (fmt : OperandFormat)
    (rule : Vca → Reply Vca) :
    vcaCommand fmt c s rule =
      if reservedBitsSet fmt c then .next (s.rejected .reservedBits)
      else
        match rule V.vca with
        | .violation => .next (s.rejected .contractViolation)
        | .ok x d => .next (s.voiceAnswered c { V with vca := x } .ok d) := by
  rw [vcaCommand, voiceCommand_of_reached h (show selectVca .vca = some () from rfl)]
  cases rule V.vca <;> rfl

/-- A command to the mixer that reaches it is its rule on that unit. -/
theorem mixCommand_of_reached {V : Voice} (h : VoiceReached .mix c s V) (fmt : OperandFormat)
    (rule : Mix → Reply Mix) :
    mixCommand fmt c s rule =
      if reservedBitsSet fmt c then .next (s.rejected .reservedBits)
      else
        match rule V.mix with
        | .violation => .next (s.rejected .contractViolation)
        | .ok x d => .next (s.voiceAnswered c { V with mix := x } .ok d) := by
  rw [mixCommand, voiceCommand_of_reached h (show selectMix .mix = some () from rfl)]
  cases rule V.mix <;> rfl

end Sys2Proof.Machine
end

