-- ==== Sys2Proof/Laws/PerInstr.lean ====
section
/-! SUPPORT. Statements per instruction: what the encoder puts where the decoder reads it. -/

/-- The encoded word holds the opcode of R110 and every field of the command in the place of R101. -/
def Sys2Proof.Laws.EncodedFields.Statement (i : Sys2Proof.Instr) : Prop :=
  Sys2Proof.opcodeField (Sys2Proof.encode i) = i.opcode ∧ Sys2Proof.commandFields (Sys2Proof.encode i) = i.fields

/-- The fields of a packed word are what was packed. -/
theorem Sys2Proof.Laws.opcodeField_packWord (opc : BitVec 8) (c : Sys2Proof.CommandFields) :
    Sys2Proof.opcodeField (Sys2Proof.packWord opc c) = opc := by
  ext i hi
  simp only [Sys2Proof.opcodeField, Sys2Proof.packWord, BitVec.getElem_extractLsb', BitVec.getLsbD_append]
  rw [if_neg (by omega), if_neg (by omega), if_neg (by omega), if_neg (by omega)]
  simp only [← BitVec.getLsbD_eq_getElem]
  congr 1
  omega

/-- The fields of a packed word are what was packed. -/
theorem Sys2Proof.Laws.commandFields_packWord (opc : BitVec 8) (c : Sys2Proof.CommandFields) :
    Sys2Proof.commandFields (Sys2Proof.packWord opc c) = c := by
  obtain ⟨inst, unit, rsv, operand⟩ := c
  simp only [Sys2Proof.commandFields, Sys2Proof.packWord, Sys2Proof.CommandFields.mk.injEq]
  refine ⟨?_, ?_, ?_, ?_⟩ <;> ext i hi <;>
    grind

theorem Sys2Proof.Laws.EncodedFields.nop (c : Sys2Proof.CommandFields) :
    Sys2Proof.Laws.EncodedFields.Statement (.nop c) :=
  ⟨Sys2Proof.Laws.opcodeField_packWord _ c, Sys2Proof.Laws.commandFields_packWord _ c⟩

theorem Sys2Proof.Laws.EncodedFields.oscSetWaveform (c : Sys2Proof.CommandFields) :
    Sys2Proof.Laws.EncodedFields.Statement (.oscSetWaveform c) :=
  ⟨Sys2Proof.Laws.opcodeField_packWord _ c, Sys2Proof.Laws.commandFields_packWord _ c⟩

theorem Sys2Proof.Laws.EncodedFields.oscSetFrequency (c : Sys2Proof.CommandFields) :
    Sys2Proof.Laws.EncodedFields.Statement (.oscSetFrequency c) :=
  ⟨Sys2Proof.Laws.opcodeField_packWord _ c, Sys2Proof.Laws.commandFields_packWord _ c⟩

theorem Sys2Proof.Laws.EncodedFields.oscSetMidiNote (c : Sys2Proof.CommandFields) :
    Sys2Proof.Laws.EncodedFields.Statement (.oscSetMidiNote c) :=
  ⟨Sys2Proof.Laws.opcodeField_packWord _ c, Sys2Proof.Laws.commandFields_packWord _ c⟩

theorem Sys2Proof.Laws.EncodedFields.oscSetDetune (c : Sys2Proof.CommandFields) :
    Sys2Proof.Laws.EncodedFields.Statement (.oscSetDetune c) :=
  ⟨Sys2Proof.Laws.opcodeField_packWord _ c, Sys2Proof.Laws.commandFields_packWord _ c⟩

theorem Sys2Proof.Laws.EncodedFields.oscSetOctave (c : Sys2Proof.CommandFields) :
    Sys2Proof.Laws.EncodedFields.Statement (.oscSetOctave c) :=
  ⟨Sys2Proof.Laws.opcodeField_packWord _ c, Sys2Proof.Laws.commandFields_packWord _ c⟩

theorem Sys2Proof.Laws.EncodedFields.oscSetModDepth (c : Sys2Proof.CommandFields) :
    Sys2Proof.Laws.EncodedFields.Statement (.oscSetModDepth c) :=
  ⟨Sys2Proof.Laws.opcodeField_packWord _ c, Sys2Proof.Laws.commandFields_packWord _ c⟩

theorem Sys2Proof.Laws.EncodedFields.oscSetSeed (c : Sys2Proof.CommandFields) :
    Sys2Proof.Laws.EncodedFields.Statement (.oscSetSeed c) :=
  ⟨Sys2Proof.Laws.opcodeField_packWord _ c, Sys2Proof.Laws.commandFields_packWord _ c⟩

theorem Sys2Proof.Laws.EncodedFields.oscAdvance (c : Sys2Proof.CommandFields) :
    Sys2Proof.Laws.EncodedFields.Statement (.oscAdvance c) :=
  ⟨Sys2Proof.Laws.opcodeField_packWord _ c, Sys2Proof.Laws.commandFields_packWord _ c⟩

theorem Sys2Proof.Laws.EncodedFields.oscRead (c : Sys2Proof.CommandFields) :
    Sys2Proof.Laws.EncodedFields.Statement (.oscRead c) :=
  ⟨Sys2Proof.Laws.opcodeField_packWord _ c, Sys2Proof.Laws.commandFields_packWord _ c⟩

theorem Sys2Proof.Laws.EncodedFields.egSetAttack (c : Sys2Proof.CommandFields) :
    Sys2Proof.Laws.EncodedFields.Statement (.egSetAttack c) :=
  ⟨Sys2Proof.Laws.opcodeField_packWord _ c, Sys2Proof.Laws.commandFields_packWord _ c⟩

theorem Sys2Proof.Laws.EncodedFields.egSetDecay (c : Sys2Proof.CommandFields) :
    Sys2Proof.Laws.EncodedFields.Statement (.egSetDecay c) :=
  ⟨Sys2Proof.Laws.opcodeField_packWord _ c, Sys2Proof.Laws.commandFields_packWord _ c⟩

theorem Sys2Proof.Laws.EncodedFields.egSetSustain (c : Sys2Proof.CommandFields) :
    Sys2Proof.Laws.EncodedFields.Statement (.egSetSustain c) :=
  ⟨Sys2Proof.Laws.opcodeField_packWord _ c, Sys2Proof.Laws.commandFields_packWord _ c⟩

theorem Sys2Proof.Laws.EncodedFields.egSetRelease (c : Sys2Proof.CommandFields) :
    Sys2Proof.Laws.EncodedFields.Statement (.egSetRelease c) :=
  ⟨Sys2Proof.Laws.opcodeField_packWord _ c, Sys2Proof.Laws.commandFields_packWord _ c⟩

theorem Sys2Proof.Laws.EncodedFields.egNoteOn (c : Sys2Proof.CommandFields) :
    Sys2Proof.Laws.EncodedFields.Statement (.egNoteOn c) :=
  ⟨Sys2Proof.Laws.opcodeField_packWord _ c, Sys2Proof.Laws.commandFields_packWord _ c⟩

theorem Sys2Proof.Laws.EncodedFields.egNoteOff (c : Sys2Proof.CommandFields) :
    Sys2Proof.Laws.EncodedFields.Statement (.egNoteOff c) :=
  ⟨Sys2Proof.Laws.opcodeField_packWord _ c, Sys2Proof.Laws.commandFields_packWord _ c⟩

theorem Sys2Proof.Laws.EncodedFields.egAdvance (c : Sys2Proof.CommandFields) :
    Sys2Proof.Laws.EncodedFields.Statement (.egAdvance c) :=
  ⟨Sys2Proof.Laws.opcodeField_packWord _ c, Sys2Proof.Laws.commandFields_packWord _ c⟩

theorem Sys2Proof.Laws.EncodedFields.egRead (c : Sys2Proof.CommandFields) :
    Sys2Proof.Laws.EncodedFields.Statement (.egRead c) :=
  ⟨Sys2Proof.Laws.opcodeField_packWord _ c, Sys2Proof.Laws.commandFields_packWord _ c⟩

theorem Sys2Proof.Laws.EncodedFields.vcfSetCutoff (c : Sys2Proof.CommandFields) :
    Sys2Proof.Laws.EncodedFields.Statement (.vcfSetCutoff c) :=
  ⟨Sys2Proof.Laws.opcodeField_packWord _ c, Sys2Proof.Laws.commandFields_packWord _ c⟩

theorem Sys2Proof.Laws.EncodedFields.vcfSetResonance (c : Sys2Proof.CommandFields) :
    Sys2Proof.Laws.EncodedFields.Statement (.vcfSetResonance c) :=
  ⟨Sys2Proof.Laws.opcodeField_packWord _ c, Sys2Proof.Laws.commandFields_packWord _ c⟩

theorem Sys2Proof.Laws.EncodedFields.vcfSetModVolume (c : Sys2Proof.CommandFields) :
    Sys2Proof.Laws.EncodedFields.Statement (.vcfSetModVolume c) :=
  ⟨Sys2Proof.Laws.opcodeField_packWord _ c, Sys2Proof.Laws.commandFields_packWord _ c⟩

theorem Sys2Proof.Laws.EncodedFields.vcfAdvance (c : Sys2Proof.CommandFields) :
    Sys2Proof.Laws.EncodedFields.Statement (.vcfAdvance c) :=
  ⟨Sys2Proof.Laws.opcodeField_packWord _ c, Sys2Proof.Laws.commandFields_packWord _ c⟩

theorem Sys2Proof.Laws.EncodedFields.vcfRead (c : Sys2Proof.CommandFields) :
    Sys2Proof.Laws.EncodedFields.Statement (.vcfRead c) :=
  ⟨Sys2Proof.Laws.opcodeField_packWord _ c, Sys2Proof.Laws.commandFields_packWord _ c⟩

theorem Sys2Proof.Laws.EncodedFields.vcaSetModVolume (c : Sys2Proof.CommandFields) :
    Sys2Proof.Laws.EncodedFields.Statement (.vcaSetModVolume c) :=
  ⟨Sys2Proof.Laws.opcodeField_packWord _ c, Sys2Proof.Laws.commandFields_packWord _ c⟩

theorem Sys2Proof.Laws.EncodedFields.vcaAdvance (c : Sys2Proof.CommandFields) :
    Sys2Proof.Laws.EncodedFields.Statement (.vcaAdvance c) :=
  ⟨Sys2Proof.Laws.opcodeField_packWord _ c, Sys2Proof.Laws.commandFields_packWord _ c⟩

theorem Sys2Proof.Laws.EncodedFields.vcaRead (c : Sys2Proof.CommandFields) :
    Sys2Proof.Laws.EncodedFields.Statement (.vcaRead c) :=
  ⟨Sys2Proof.Laws.opcodeField_packWord _ c, Sys2Proof.Laws.commandFields_packWord _ c⟩

theorem Sys2Proof.Laws.EncodedFields.mixAdvance (c : Sys2Proof.CommandFields) :
    Sys2Proof.Laws.EncodedFields.Statement (.mixAdvance c) :=
  ⟨Sys2Proof.Laws.opcodeField_packWord _ c, Sys2Proof.Laws.commandFields_packWord _ c⟩

theorem Sys2Proof.Laws.EncodedFields.mixRead (c : Sys2Proof.CommandFields) :
    Sys2Proof.Laws.EncodedFields.Statement (.mixRead c) :=
  ⟨Sys2Proof.Laws.opcodeField_packWord _ c, Sys2Proof.Laws.commandFields_packWord _ c⟩

theorem Sys2Proof.Laws.EncodedFields.voiceNoteOn (c : Sys2Proof.CommandFields) :
    Sys2Proof.Laws.EncodedFields.Statement (.voiceNoteOn c) :=
  ⟨Sys2Proof.Laws.opcodeField_packWord _ c, Sys2Proof.Laws.commandFields_packWord _ c⟩

theorem Sys2Proof.Laws.EncodedFields.voiceNoteOff (c : Sys2Proof.CommandFields) :
    Sys2Proof.Laws.EncodedFields.Statement (.voiceNoteOff c) :=
  ⟨Sys2Proof.Laws.opcodeField_packWord _ c, Sys2Proof.Laws.commandFields_packWord _ c⟩

theorem Sys2Proof.Laws.EncodedFields.voiceAdvance (c : Sys2Proof.CommandFields) :
    Sys2Proof.Laws.EncodedFields.Statement (.voiceAdvance c) :=
  ⟨Sys2Proof.Laws.opcodeField_packWord _ c, Sys2Proof.Laws.commandFields_packWord _ c⟩

theorem Sys2Proof.Laws.EncodedFields.voiceRead (c : Sys2Proof.CommandFields) :
    Sys2Proof.Laws.EncodedFields.Statement (.voiceRead c) :=
  ⟨Sys2Proof.Laws.opcodeField_packWord _ c, Sys2Proof.Laws.commandFields_packWord _ c⟩

theorem Sys2Proof.Laws.EncodedFields.voiceState (c : Sys2Proof.CommandFields) :
    Sys2Proof.Laws.EncodedFields.Statement (.voiceState c) :=
  ⟨Sys2Proof.Laws.opcodeField_packWord _ c, Sys2Proof.Laws.commandFields_packWord _ c⟩

theorem Sys2Proof.Laws.EncodedFields.voiceKey (c : Sys2Proof.CommandFields) :
    Sys2Proof.Laws.EncodedFields.Statement (.voiceKey c) :=
  ⟨Sys2Proof.Laws.opcodeField_packWord _ c, Sys2Proof.Laws.commandFields_packWord _ c⟩

theorem Sys2Proof.Laws.EncodedFields.readReg (c : Sys2Proof.CommandFields) :
    Sys2Proof.Laws.EncodedFields.Statement (.readReg c) :=
  ⟨Sys2Proof.Laws.opcodeField_packWord _ c, Sys2Proof.Laws.commandFields_packWord _ c⟩

theorem Sys2Proof.Laws.EncodedFields.decByte (c : Sys2Proof.CommandFields) :
    Sys2Proof.Laws.EncodedFields.Statement (.decByte c) :=
  ⟨Sys2Proof.Laws.opcodeField_packWord _ c, Sys2Proof.Laws.commandFields_packWord _ c⟩

theorem Sys2Proof.Laws.EncodedFields.decClearCounters (c : Sys2Proof.CommandFields) :
    Sys2Proof.Laws.EncodedFields.Statement (.decClearCounters c) :=
  ⟨Sys2Proof.Laws.opcodeField_packWord _ c, Sys2Proof.Laws.commandFields_packWord _ c⟩
end

