-- ==== Sys2Proof/WellFormed.lean ====
section
/-! DEFINITION. Well-formed commands: those that pass the checks of R333 that concern the word alone (the unit
set, RSV and the reserved operand bits). NOP is well-formed whatever its fields hold (R113, R321). -/

namespace Sys2Proof

/-- The UNIT field names a unit the opcode accepts (R112). -/
def Instr.unitAccepted (i : Instr) (c : CommandFields) : Bool :=
  match Machine.unitOfCode c.unit with
  | some u => Machine.instrAccepts i u
  | none => false

/-- The word-level legality of a command (R102, R112). -/
def Instr.wellFormed (i : Instr) : Bool :=
  match i with
  | .nop _ => true
  | .oscSetWaveform c => i.unitAccepted c && !Machine.reservedBitsSet (Machine.instrFormat i) c
  | .oscSetFrequency c => i.unitAccepted c && !Machine.reservedBitsSet (Machine.instrFormat i) c
  | .oscSetMidiNote c => i.unitAccepted c && !Machine.reservedBitsSet (Machine.instrFormat i) c
  | .oscSetDetune c => i.unitAccepted c && !Machine.reservedBitsSet (Machine.instrFormat i) c
  | .oscSetOctave c => i.unitAccepted c && !Machine.reservedBitsSet (Machine.instrFormat i) c
  | .oscSetModDepth c => i.unitAccepted c && !Machine.reservedBitsSet (Machine.instrFormat i) c
  | .oscSetSeed c => i.unitAccepted c && !Machine.reservedBitsSet (Machine.instrFormat i) c
  | .oscAdvance c => i.unitAccepted c && !Machine.reservedBitsSet (Machine.instrFormat i) c
  | .oscRead c => i.unitAccepted c && !Machine.reservedBitsSet (Machine.instrFormat i) c
  | .egSetAttack c => i.unitAccepted c && !Machine.reservedBitsSet (Machine.instrFormat i) c
  | .egSetDecay c => i.unitAccepted c && !Machine.reservedBitsSet (Machine.instrFormat i) c
  | .egSetSustain c => i.unitAccepted c && !Machine.reservedBitsSet (Machine.instrFormat i) c
  | .egSetRelease c => i.unitAccepted c && !Machine.reservedBitsSet (Machine.instrFormat i) c
  | .egNoteOn c => i.unitAccepted c && !Machine.reservedBitsSet (Machine.instrFormat i) c
  | .egNoteOff c => i.unitAccepted c && !Machine.reservedBitsSet (Machine.instrFormat i) c
  | .egAdvance c => i.unitAccepted c && !Machine.reservedBitsSet (Machine.instrFormat i) c
  | .egRead c => i.unitAccepted c && !Machine.reservedBitsSet (Machine.instrFormat i) c
  | .vcfSetCutoff c => i.unitAccepted c && !Machine.reservedBitsSet (Machine.instrFormat i) c
  | .vcfSetResonance c => i.unitAccepted c && !Machine.reservedBitsSet (Machine.instrFormat i) c
  | .vcfSetModVolume c => i.unitAccepted c && !Machine.reservedBitsSet (Machine.instrFormat i) c
  | .vcfAdvance c => i.unitAccepted c && !Machine.reservedBitsSet (Machine.instrFormat i) c
  | .vcfRead c => i.unitAccepted c && !Machine.reservedBitsSet (Machine.instrFormat i) c
  | .vcaSetModVolume c => i.unitAccepted c && !Machine.reservedBitsSet (Machine.instrFormat i) c
  | .vcaAdvance c => i.unitAccepted c && !Machine.reservedBitsSet (Machine.instrFormat i) c
  | .vcaRead c => i.unitAccepted c && !Machine.reservedBitsSet (Machine.instrFormat i) c
  | .mixAdvance c => i.unitAccepted c && !Machine.reservedBitsSet (Machine.instrFormat i) c
  | .mixRead c => i.unitAccepted c && !Machine.reservedBitsSet (Machine.instrFormat i) c
  | .voiceNoteOn c => i.unitAccepted c && !Machine.reservedBitsSet (Machine.instrFormat i) c
  | .voiceNoteOff c => i.unitAccepted c && !Machine.reservedBitsSet (Machine.instrFormat i) c
  | .voiceAdvance c => i.unitAccepted c && !Machine.reservedBitsSet (Machine.instrFormat i) c
  | .voiceRead c => i.unitAccepted c && !Machine.reservedBitsSet (Machine.instrFormat i) c
  | .voiceState c => i.unitAccepted c && !Machine.reservedBitsSet (Machine.instrFormat i) c
  | .voiceKey c => i.unitAccepted c && !Machine.reservedBitsSet (Machine.instrFormat i) c
  | .readReg c => i.unitAccepted c && !Machine.reservedBitsSet (Machine.instrFormat i) c
  | .decByte c => i.unitAccepted c && !Machine.reservedBitsSet (Machine.instrFormat i) c
  | .decClearCounters c => i.unitAccepted c && !Machine.reservedBitsSet (Machine.instrFormat i) c

end Sys2Proof
end

