-- ==== Sys2Proof/Machine/Assembly.lean ====
section
/-! DEFINITION. The textual syntax of R120 to R123: a printer of commands and an assembler of one line. A text
is a list of characters. -/

namespace Sys2Proof.Machine

/-- The mnemonic of a command (R110, R120). -/
def mnemonicOf : Instr → String
  | .nop _ => "NOP"
  | .oscSetWaveform _ => "OSC_SET_WAVEFORM"
  | .oscSetFrequency _ => "OSC_SET_FREQUENCY"
  | .oscSetMidiNote _ => "OSC_SET_MIDI_NOTE"
  | .oscSetDetune _ => "OSC_SET_DETUNE"
  | .oscSetOctave _ => "OSC_SET_OCTAVE"
  | .oscSetModDepth _ => "OSC_SET_MOD_DEPTH"
  | .oscSetSeed _ => "OSC_SET_SEED"
  | .oscAdvance _ => "OSC_ADVANCE"
  | .oscRead _ => "OSC_READ"
  | .egSetAttack _ => "EG_SET_ATTACK"
  | .egSetDecay _ => "EG_SET_DECAY"
  | .egSetSustain _ => "EG_SET_SUSTAIN"
  | .egSetRelease _ => "EG_SET_RELEASE"
  | .egNoteOn _ => "EG_NOTE_ON"
  | .egNoteOff _ => "EG_NOTE_OFF"
  | .egAdvance _ => "EG_ADVANCE"
  | .egRead _ => "EG_READ"
  | .vcfSetCutoff _ => "VCF_SET_CUTOFF"
  | .vcfSetResonance _ => "VCF_SET_RESONANCE"
  | .vcfSetModVolume _ => "VCF_SET_MOD_VOLUME"
  | .vcfAdvance _ => "VCF_ADVANCE"
  | .vcfRead _ => "VCF_READ"
  | .vcaSetModVolume _ => "VCA_SET_MOD_VOLUME"
  | .vcaAdvance _ => "VCA_ADVANCE"
  | .vcaRead _ => "VCA_READ"
  | .mixAdvance _ => "MIX_ADVANCE"
  | .mixRead _ => "MIX_READ"
  | .voiceNoteOn _ => "VOICE_NOTE_ON"
  | .voiceNoteOff _ => "VOICE_NOTE_OFF"
  | .voiceAdvance _ => "VOICE_ADVANCE"
  | .voiceRead _ => "VOICE_READ"
  | .voiceState _ => "VOICE_STATE"
  | .voiceKey _ => "VOICE_KEY"
  | .readReg _ => "READ_REG"
  | .decByte _ => "DEC_BYTE"
  | .decClearCounters _ => "DEC_CLEAR_COUNTERS"

/-- The name of a unit in a target (R31, R121). -/
def unitName : UnitId → String
  | .osc .vco1 => "VCO1"
  | .osc .vco2 => "VCO2"
  | .osc .lfoVco => "LFO_VCO"
  | .osc .lfoVcf => "LFO_VCF"
  | .osc .lfoVca => "LFO_VCA"
  | .eg .vcf => "EG_VCF"
  | .eg .vca => "EG_VCA"
  | .vcf => "VCF"
  | .vca => "VCA"
  | .mix => "MIX"
  | .voice => "VOICE"
  | .dec => "DEC"

/-- The units a target can name by unit name: every voice unit (R121). -/
def namedUnits : List UnitId :=
  [.osc .vco1, .osc .vco2, .osc .lfoVco, .osc .lfoVcf, .osc .lfoVca, .eg .vcf, .eg .vca, .vcf, .vca, .mix,
   .voice]

/-- The field names of a unit by register index (R122, R323). -/
def fieldNames : UnitId → List String
  | .osc _ => ["WAVE", "BASE", "EFF", "DETUNE", "OCTAVE", "DEPTH", "PHASE", "OUT", "NOISE"]
  | .eg _ => ["STATE", "LEVEL", "ATTACK", "DECAY", "SUSTAIN", "RELEASE", "PEAK", "SEG_START", "SEG_COUNT"]
  | .vcf => ["CUTOFF", "RESONANCE", "MODVOL", "X1", "X2", "Y1", "Y2", "OUT"]
  | .vca => ["MODVOL", "OUT"]
  | .mix => ["OUT"]
  | .voice => ["KEY"]
  | .dec => ["STATE", "ADDRESS", "VALUE", "FRAME_ERR", "PARITY_ERR"]

/-- The waveform names by code (R122). -/
def waveNames : List String := ["SINE", "SQUARE", "SAWTOOTH", "TRIANGLE", "PULSE8", "PULSE4", "NOISE"]

/-- The character of a digit below 16. -/
def digitChar (d : Nat) : Char := "0123456789ABCDEF".toList.getD d '0'

/-- `n` with exactly `width` digits of a base. -/
def digitsOf (base : Nat) : Nat → Nat → List Char
  | 0, _ => []
  | width + 1, n => digitsOf base width (n / base) ++ [digitChar (n % base)]

/-- How many decimal digits a number below 10^10 has. -/
def decimalWidth (n : Nat) : Nat :=
  ((List.range 10).filter fun k => 10 ^ (k + 1) ≤ n).length + 1

/-- Decimal, without leading zeros. -/
def printDecimal (n : Nat) : List Char := digitsOf 10 (decimalWidth n) n

/-- `#0x` and eight hex digits (R122; log entry 15). -/
def printF32 (w : F32) : List Char := "#0x".toList ++ digitsOf 16 8 w.toNat

/-- A target: `V<v>.<UNIT>` or `D<d>` (R121). -/
def printTarget (inst : BitVec 8) (u : UnitId) : List Char :=
  match u with
  | .dec => 'D' :: printDecimal inst.toNat
  | u => 'V' :: printDecimal inst.toNat ++ '.' :: (unitName u).toList

/-- The separator before each operand. -/
def commaSpace : List Char := [',', ' ']

/-- The operand text of a command, in its opcode's format (R122; log entry 15). Waveform code 7 has none. -/
def printOperand (i : Instr) (u : UnitId) (w : BitVec 32) : Option (List Char) :=
  match instrFormat i with
  | .none => some []
  | .f32 => some (commaSpace ++ printF32 w)
  | .u32 => some (commaSpace ++ printDecimal w.toNat)
  | .s32 =>
      some (commaSpace ++ (if w.toInt < 0 then '-' :: printDecimal w.toInt.natAbs else printDecimal w.toNat))
  | .wave => (waveNames[w.toNat]?).map fun name => commaSpace ++ name.toList
  | .keyvel =>
      some (commaSpace ++ printDecimal (w.extractLsb' 0 8).toNat ++ commaSpace ++
        printDecimal (w.extractLsb' 8 8).toNat)
  | .byte => some (commaSpace ++ "0x".toList ++ digitsOf 16 2 w.toNat)
  | .regidx =>
      some (commaSpace ++ (((fieldNames u)[w.toNat]?).map String.toList).getD (printDecimal w.toNat))

/-- The statement of a command (R120); none where no statement encodes it: RSV or a reserved operand bit set, a
reserved unit code, or an operand without a spelling. DESIGN CHOICE (log entry 15): a unit the opcode does not take
is printed by its name. -/
def printInstr (i : Instr) : Option (List Char) :=
  match i with
  | .nop c => if c = ⟨0#8, 0#4, 0#12, 0#32⟩ then some "NOP".toList else none
  | i =>
    match unitOfCode i.fields.unit with
    | none => none
    | some u =>
      if reservedBitsSet (instrFormat i) i.fields then none
      else
        (printOperand i u i.fields.operand).map fun operand =>
          (mnemonicOf i).toList ++ ' ' :: printTarget i.fields.inst u ++ operand

/-- Split at every occurrence of a character. -/
def splitAtChar (ch : Char) : List Char → List (List Char)
  | [] => [[]]
  | x :: xs =>
    if x = ch then [] :: splitAtChar ch xs
    else
      match splitAtChar ch xs with
      | [] => [[x]]
      | w :: ws => (x :: w) :: ws

/-- Blank characters. DESIGN CHOICE (log entry 15): space and tab. -/
def isBlank (ch : Char) : Bool := ch == ' ' || ch == '\t'

/-- Without blanks at both ends. -/
def trimBlanks (t : List Char) : List Char :=
  ((t.dropWhile isBlank).reverse.dropWhile isBlank).reverse

/-- The value of a digit character in a base up to 16. -/
def digitValue (base : Nat) (ch : Char) : Option Nat :=
  let v :=
    if '0' ≤ ch ∧ ch ≤ '9' then ch.toNat - '0'.toNat
    else if 'a' ≤ ch ∧ ch ≤ 'f' then ch.toNat - 'a'.toNat + 10
    else if 'A' ≤ ch ∧ ch ≤ 'F' then ch.toNat - 'A'.toNat + 10
    else 16
  if v < base then some v else none

/-- The number a nonempty text of digits writes. DESIGN CHOICE (log entry 15): a hexadecimal digit may be of either
case. -/
def parseDigits (base : Nat) (t : List Char) : Option Nat :=
  match t with
  | [] => none
  | t => t.foldl (fun acc ch => do let a ← acc; let d ← digitValue base ch; pure (a * base + d)) (some 0)

/-- A decimal or `0x` hexadecimal integer (R122). -/
def parseNat (t : List Char) : Option Nat :=
  match t with
  | '0' :: 'x' :: ds => parseDigits 16 ds
  | t => parseDigits 10 t

/-- A number that fits in a number of bits, as an operand word. -/
def natOperand (bits : Nat) (n : Nat) : Option (BitVec 32) :=
  if n < 2 ^ bits then some (BitVec.ofNat 32 n) else none

/-- A decimal literal of R122 as an exact rational. DESIGN CHOICE (log entry 15): R122 does not say which forms a
decimal literal may take; in the model it is an optional `-`, digits, and optionally `.` with digits, so an exponent,
a leading `+`, `.5` and `5.` are refused. -/
def parseDecimalLiteral (t : List Char) : Option Rat :=
  match t with
  | '-' :: ds => (unsigned ds).map fun q => -q
  | ds => unsigned ds
where
  unsigned (ds : List Char) : Option Rat :=
    match splitAtChar '.' ds with
    | [whole] => (parseDigits 10 whole).map fun n => (n : Rat)
    | [whole, fraction] => do
        let a ← parseDigits 10 whole
        let b ← parseDigits 10 fraction
        pure ((a : Rat) + (b : Rat) / ((10 ^ fraction.length : Nat) : Rat))
    | _ => none

/-- An F32 operand: `#0x` and eight hex digits, or a decimal literal rounded once (R122). The literal `-0.0` has the
exact value 0, so it encodes as rnd32(0) = +0.0. -/
def parseF32 (t : List Char) : Option F32 :=
  match t with
  | '#' :: '0' :: 'x' :: ds =>
      if ds.length = 8 then (parseDigits 16 ds).map (BitVec.ofNat 32) else none
  | t => (parseDecimalLiteral t).map rnd32

/-- The index of a name in a list of names. -/
def nameIndex (names : List String) (t : List Char) : Option Nat :=
  names.findIdx? fun n => n.toList == t

/-- The operand word of a command from its operand texts (R122). DESIGN CHOICE (log entry 15): R122 does not say
whether a hexadecimal S32 operand from 0x80000000 up is the 32-bit pattern of a negative number; in the model an
integer, decimal or hexadecimal, stands for its own value, so 0xFFFFFFFD is 4294967293, no s32, and is refused (-3 and
-0x3 are the spellings). An integer too large for its operand is refused likewise. DESIGN CHOICE (log entry 15): R122
gives no spelling for the key and the velocity of VOICE_NOTE_ON; in the model each is a decimal or `0x` hexadecimal
integer of at most 255, the width of its field, so a key above 127 assembles (the block answers that word). -/
def parseOperands (fmt : OperandFormat) (u : UnitId) (ops : List (List Char)) : Option (BitVec 32) :=
  match fmt, ops with
  | .none, [] => some 0#32
  | .f32, [t] => parseF32 t
  | .u32, [t] => parseNat t >>= natOperand 32
  | .s32, [t] =>
      match t with
      | '-' :: ds => (parseNat ds).bind fun n => if n ≤ 2 ^ 31 then some (BitVec.ofInt 32 (-(n : Int))) else none
      | t => (parseNat t).bind fun n => if n < 2 ^ 31 then some (BitVec.ofNat 32 n) else none
  | .wave, [t] =>
      match nameIndex waveNames t with
      | some k => some (BitVec.ofNat 32 k)
      | none => (parseNat t).bind fun n => if n ≤ 6 then some (BitVec.ofNat 32 n) else none
  | .keyvel, [k, v] => do
      let key ← parseNat k >>= natOperand 8
      let vel ← parseNat v >>= natOperand 8
      pure (key ||| (vel <<< 8))
  | .byte, [t] => parseNat t >>= natOperand 8
  | .regidx, [t] =>
      match nameIndex (fieldNames u) t with
      | some k => some (BitVec.ofNat 32 k)
      | none => parseNat t >>= natOperand 32
  | _, _ => none

/-- A target: its instance and unit (R121). -/
def parseTarget (t : List Char) : Option (BitVec 8 × UnitId) :=
  match t with
  | 'D' :: ds => do
      let d ← parseDigits 10 ds
      if d < 256 then some (BitVec.ofNat 8 d, .dec) else none
  | 'V' :: rest =>
    match splitAtChar '.' rest with
    | [ds, name] => do
        let v ← parseDigits 10 ds
        let u ← namedUnits.find? fun u => (unitName u).toList == name
        if v < 256 then some (BitVec.ofNat 8 v, u) else none
    | _ => none
  | _ => none

/-- `V<v>`, the target of the voice pseudo-instructions (R123). -/
def parseVoice (t : List Char) : Option (BitVec 8) :=
  match t with
  | 'V' :: ds => do
      let v ← parseDigits 10 ds
      if v < 256 then some (BitVec.ofNat 8 v) else none
  | _ => none

/-- The commands by mnemonic (R110). -/
def commandsByName : List (String × (CommandFields → Instr)) :=
  [("OSC_SET_WAVEFORM", .oscSetWaveform), ("OSC_SET_FREQUENCY", .oscSetFrequency),
   ("OSC_SET_MIDI_NOTE", .oscSetMidiNote), ("OSC_SET_DETUNE", .oscSetDetune),
   ("OSC_SET_OCTAVE", .oscSetOctave), ("OSC_SET_MOD_DEPTH", .oscSetModDepth),
   ("OSC_SET_SEED", .oscSetSeed), ("OSC_ADVANCE", .oscAdvance),
   ("OSC_READ", .oscRead), ("EG_SET_ATTACK", .egSetAttack),
   ("EG_SET_DECAY", .egSetDecay), ("EG_SET_SUSTAIN", .egSetSustain),
   ("EG_SET_RELEASE", .egSetRelease), ("EG_NOTE_ON", .egNoteOn),
   ("EG_NOTE_OFF", .egNoteOff), ("EG_ADVANCE", .egAdvance),
   ("EG_READ", .egRead), ("VCF_SET_CUTOFF", .vcfSetCutoff),
   ("VCF_SET_RESONANCE", .vcfSetResonance), ("VCF_SET_MOD_VOLUME", .vcfSetModVolume),
   ("VCF_ADVANCE", .vcfAdvance), ("VCF_READ", .vcfRead),
   ("VCA_SET_MOD_VOLUME", .vcaSetModVolume), ("VCA_ADVANCE", .vcaAdvance),
   ("VCA_READ", .vcaRead), ("MIX_ADVANCE", .mixAdvance),
   ("MIX_READ", .mixRead), ("VOICE_NOTE_ON", .voiceNoteOn),
   ("VOICE_NOTE_OFF", .voiceNoteOff), ("VOICE_ADVANCE", .voiceAdvance),
   ("VOICE_READ", .voiceRead), ("VOICE_STATE", .voiceState),
   ("VOICE_KEY", .voiceKey), ("READ_REG", .readReg),
   ("DEC_BYTE", .decByte), ("DEC_CLEAR_COUNTERS", .decClearCounters)]

/-- The statement of one line without its comment: mnemonic and comma-separated texts (R120). DESIGN CHOICE (log
entry 15): blanks may stand at both ends of the line and around a comma, and a line may hold no statement. -/
def splitStatement (line : List Char) : List Char × List (List Char) :=
  let text := trimBlanks (line.takeWhile (· != ';'))
  let mnemonic := text.takeWhile fun ch => !isBlank ch
  let rest := trimBlanks (text.dropWhile fun ch => !isBlank ch)
  (mnemonic, if rest.isEmpty then [] else (splitAtChar ',' rest).map trimBlanks)

/-- The commands of one line; a blank or comment line has none, a line that is no statement is refused. The
text of a patch is not defined by R123, so APPLY_PATCH has no line (see `expandApplyPatch`; log entry 15).
DESIGN CHOICE (log entry 15): R121 does not say whether a statement may name a unit its opcode does not take; it
may, and the word it encodes is answered with ILLEGAL_UNIT. DESIGN CHOICE (log entry 15): R123 gives no spelling for
the `<a>` and `<val>` of DEC_MESSAGE; in the model each is a decimal or `0x` hexadecimal integer. -/
def assembleLine (line : List Char) : Option (List Instr) :=
  match splitStatement line with
  | ([], []) => some []
  | (m, parts) =>
    if m == "NOP".toList then (if parts.isEmpty then some [.nop ⟨0#8, 0#4, 0#12, 0#32⟩] else none)
    else if m == "SAMPLE".toList then
      match parts with
      | [v] => (parseVoice v).map expandSample
      | _ => none
    else if m == "DEC_MESSAGE".toList then
      match parts with
      | [t, a, v] => do
          let target ← parseTarget t
          let address ← parseNat a
          let value ← parseNat v
          if target.2 = .dec ∧ address < 128 ∧ value < 16384 then
            some (expandDecMessage target.1 (BitVec.ofNat 7 address) (BitVec.ofNat 14 value))
          else none
      | _ => none
    else if m == "OSC_SET_NOTE".toList then
      match parts with
      | [t, n] => do
          let target ← parseTarget t
          let o ← selectOsc target.2
          let note ← parseNat n >>= natOperand 32
          pure (expandOscSetNote target.1 o note)
      | _ => none
    else
      match commandsByName.find? (fun e => e.1.toList == m), parts with
      | some (_, make), t :: ops => do
          let target ← parseTarget t
          let operand ← parseOperands (instrFormat (make ⟨0#8, 0#4, 0#12, 0#32⟩)) target.2 ops
          pure [make (fieldsFor target.1 target.2 operand)]
      | _, _ => none

end Sys2Proof.Machine
end

