-- ==== Sys2Proof/Tests/Slice0.lean ====
section
/-! SUPPORT. Tests of one command each, with expected values from the spec's examples and vectors, and a witness
for the hypotheses of every statement that has some. -/

namespace Sys2Proof.Tests

open Sys2Proof.Machine

-- One theorem after another: in parallel, the many kernel evaluations below ask for too many thread stacks.
set_option Elab.async false

/-- Voice 0 after reset. -/
def V0 : Voice := resetVoice defaultParams 0

/-- The state after reset, with voice 0 replaced and one command pending. -/
def stateWith (V : Voice) (D : Decoder) (p : Port) (w : CommandWord) : State :=
  { State.reset with voices := [V], decoders := [D], inputs := [.command p w] }

/-- The last response on a port after one step. -/
def answerOf (s : State) (p : Port) : Option Response :=
  match step s with
  | .next t => (t.responsesOn p).getLast?
  | _ => none

/-- The response of one command word issued first after reset. -/
def answer (p : Port) (w : CommandWord) : Option Response := answerOf (stateWith V0 resetDecoder p w) p

/-- Voice 0 after one command word on APORT. -/
def voiceAfter (V : Voice) (w : CommandWord) : Option Voice :=
  match step (stateWith V resetDecoder .aport w) with
  | .next t => t.voices[0]?
  | _ => none

/-- Decoder 0 after one command word on CPORT. -/
def decoderAfter (D : Decoder) (w : CommandWord) : Option Decoder :=
  match step (stateWith V0 D .cport w) with
  | .next t => t.decoders[0]?
  | _ => none

-- Well-formedness: one ill-formed command for each check (R102, R112, R333).

theorem test_wellFormed_command : (Instr.oscSetWaveform ⟨0#8, 4#4, 0#12, 6#32⟩).wellFormed = true := by decide
theorem test_wellFormed_nop_any_fields : (Instr.nop ⟨255#8, 15#4, 0x123#12, 0x456789AB#32⟩).wellFormed = true := by decide
theorem test_illFormed_unit : (Instr.oscSetFrequency ⟨0#8, 7#4, 0#12, 0#32⟩).wellFormed = false := by decide
theorem test_illFormed_reserved_unit_code : (Instr.readReg ⟨0#8, 12#4, 0#12, 0#32⟩).wellFormed = false := by decide
theorem test_illFormed_rsv : (Instr.oscSetFrequency ⟨0#8, 0#4, 1#12, 0#32⟩).wellFormed = false := by decide
theorem test_illFormed_wave_bit3 : (Instr.oscSetWaveform ⟨0#8, 0#4, 0#12, 8#32⟩).wellFormed = false := by decide
theorem test_illFormed_keyvel_bit16 : (Instr.voiceNoteOn ⟨0#8, 10#4, 0#12, 0x1643C#32⟩).wellFormed = false := by decide
theorem test_illFormed_byte_bit8 : (Instr.decByte ⟨0#8, 11#4, 0#12, 0x180#32⟩).wellFormed = false := by decide
theorem test_illFormed_none_bit0 : (Instr.oscAdvance ⟨0#8, 0#4, 0#12, 1#32⟩).wellFormed = false := by decide

-- Decoding: one word of every command, written out from R101 and R110 (INST 0x12 shows the field's place).

theorem test_decode_nop : decode 0x00FFF123456789AB#64 = .ok (.nop ⟨0xFF#8, 0xF#4, 0x123#12, 0x456789AB#32⟩) := by decide
theorem test_decode_oscSetWaveform : decode 0x0112000000000005#64 = .ok (.oscSetWaveform ⟨0x12#8, 0#4, 0#12, 0x00000005#32⟩) := by decide
theorem test_decode_oscSetFrequency : decode 0x021200003F800000#64 = .ok (.oscSetFrequency ⟨0x12#8, 0#4, 0#12, 0x3F800000#32⟩) := by decide
theorem test_decode_oscSetMidiNote : decode 0x0312000000000045#64 = .ok (.oscSetMidiNote ⟨0x12#8, 0#4, 0#12, 0x00000045#32⟩) := by decide
theorem test_decode_oscSetDetune : decode 0x041200003F800000#64 = .ok (.oscSetDetune ⟨0x12#8, 0#4, 0#12, 0x3F800000#32⟩) := by decide
theorem test_decode_oscSetOctave : decode 0x05120000FFFFFFFD#64 = .ok (.oscSetOctave ⟨0x12#8, 0#4, 0#12, 0xFFFFFFFD#32⟩) := by decide
theorem test_decode_oscSetModDepth : decode 0x061200003F800000#64 = .ok (.oscSetModDepth ⟨0x12#8, 0#4, 0#12, 0x3F800000#32⟩) := by decide
theorem test_decode_oscSetSeed : decode 0x0712000000000045#64 = .ok (.oscSetSeed ⟨0x12#8, 0#4, 0#12, 0x00000045#32⟩) := by decide
theorem test_decode_oscAdvance : decode 0x0812000000000000#64 = .ok (.oscAdvance ⟨0x12#8, 0#4, 0#12, 0x00000000#32⟩) := by decide
theorem test_decode_oscRead : decode 0x0912000000000000#64 = .ok (.oscRead ⟨0x12#8, 0#4, 0#12, 0x00000000#32⟩) := by decide
theorem test_decode_egSetAttack : decode 0x101250003F800000#64 = .ok (.egSetAttack ⟨0x12#8, 5#4, 0#12, 0x3F800000#32⟩) := by decide
theorem test_decode_egSetDecay : decode 0x111250003F800000#64 = .ok (.egSetDecay ⟨0x12#8, 5#4, 0#12, 0x3F800000#32⟩) := by decide
theorem test_decode_egSetSustain : decode 0x121250003F800000#64 = .ok (.egSetSustain ⟨0x12#8, 5#4, 0#12, 0x3F800000#32⟩) := by decide
theorem test_decode_egSetRelease : decode 0x131250003F800000#64 = .ok (.egSetRelease ⟨0x12#8, 5#4, 0#12, 0x3F800000#32⟩) := by decide
theorem test_decode_egNoteOn : decode 0x141250003F800000#64 = .ok (.egNoteOn ⟨0x12#8, 5#4, 0#12, 0x3F800000#32⟩) := by decide
theorem test_decode_egNoteOff : decode 0x1512500000000000#64 = .ok (.egNoteOff ⟨0x12#8, 5#4, 0#12, 0x00000000#32⟩) := by decide
theorem test_decode_egAdvance : decode 0x1612500000000000#64 = .ok (.egAdvance ⟨0x12#8, 5#4, 0#12, 0x00000000#32⟩) := by decide
theorem test_decode_egRead : decode 0x1712500000000000#64 = .ok (.egRead ⟨0x12#8, 5#4, 0#12, 0x00000000#32⟩) := by decide
theorem test_decode_vcfSetCutoff : decode 0x201270003F800000#64 = .ok (.vcfSetCutoff ⟨0x12#8, 7#4, 0#12, 0x3F800000#32⟩) := by decide
theorem test_decode_vcfSetResonance : decode 0x211270003F800000#64 = .ok (.vcfSetResonance ⟨0x12#8, 7#4, 0#12, 0x3F800000#32⟩) := by decide
theorem test_decode_vcfSetModVolume : decode 0x221270003F800000#64 = .ok (.vcfSetModVolume ⟨0x12#8, 7#4, 0#12, 0x3F800000#32⟩) := by decide
theorem test_decode_vcfAdvance : decode 0x2312700000000000#64 = .ok (.vcfAdvance ⟨0x12#8, 7#4, 0#12, 0x00000000#32⟩) := by decide
theorem test_decode_vcfRead : decode 0x2412700000000000#64 = .ok (.vcfRead ⟨0x12#8, 7#4, 0#12, 0x00000000#32⟩) := by decide
theorem test_decode_vcaSetModVolume : decode 0x281280003F800000#64 = .ok (.vcaSetModVolume ⟨0x12#8, 8#4, 0#12, 0x3F800000#32⟩) := by decide
theorem test_decode_vcaAdvance : decode 0x2912800000000000#64 = .ok (.vcaAdvance ⟨0x12#8, 8#4, 0#12, 0x00000000#32⟩) := by decide
theorem test_decode_vcaRead : decode 0x2A12800000000000#64 = .ok (.vcaRead ⟨0x12#8, 8#4, 0#12, 0x00000000#32⟩) := by decide
theorem test_decode_mixAdvance : decode 0x3012900000000000#64 = .ok (.mixAdvance ⟨0x12#8, 9#4, 0#12, 0x00000000#32⟩) := by decide
theorem test_decode_mixRead : decode 0x3112900000000000#64 = .ok (.mixRead ⟨0x12#8, 9#4, 0#12, 0x00000000#32⟩) := by decide
theorem test_decode_voiceNoteOn : decode 0x3812A0000000643C#64 = .ok (.voiceNoteOn ⟨0x12#8, 10#4, 0#12, 0x0000643C#32⟩) := by decide
theorem test_decode_voiceNoteOff : decode 0x3912A00000000000#64 = .ok (.voiceNoteOff ⟨0x12#8, 10#4, 0#12, 0x00000000#32⟩) := by decide
theorem test_decode_voiceAdvance : decode 0x3A12A00000000000#64 = .ok (.voiceAdvance ⟨0x12#8, 10#4, 0#12, 0x00000000#32⟩) := by decide
theorem test_decode_voiceRead : decode 0x3B12A00000000000#64 = .ok (.voiceRead ⟨0x12#8, 10#4, 0#12, 0x00000000#32⟩) := by decide
theorem test_decode_voiceState : decode 0x3C12A00000000000#64 = .ok (.voiceState ⟨0x12#8, 10#4, 0#12, 0x00000000#32⟩) := by decide
theorem test_decode_voiceKey : decode 0x3D12A00000000000#64 = .ok (.voiceKey ⟨0x12#8, 10#4, 0#12, 0x00000000#32⟩) := by decide
theorem test_decode_readReg : decode 0x3F12100000000006#64 = .ok (.readReg ⟨0x12#8, 1#4, 0#12, 0x00000006#32⟩) := by decide
theorem test_decode_decByte : decode 0x4012B000000000C1#64 = .ok (.decByte ⟨0x12#8, 11#4, 0#12, 0x000000C1#32⟩) := by decide
theorem test_decode_decClearCounters : decode 0x4112B00000000000#64 = .ok (.decClearCounters ⟨0x12#8, 11#4, 0#12, 0x00000000#32⟩) := by decide
theorem test_decode_unassigned : decode 0x0A00000000000000#64 = .error (.illegalOpcode 0x0A#8) := by decide
theorem test_decodeTableWord : decodeTableWord 64 0x4000B000000000C1 = some (.decByte ⟨0#8, 11#4, 0#12, 0xC1#32⟩) := by decide
theorem test_withFetchWord_runs_on_the_own_port :
    answerOf (State.reset.withFetchWord 64 0x4000B00000000080) .cport = some ⟨.ok, 0#32⟩ := by decide +kernel

-- Numerics: constants of R21, ties of R283, the tables of R88 and R92, EXP2 of S2, the rows of R253.

theorem test_rnd32_ties_to_even :
    rnd32 (1 / 2 ^ 150) = 0#32 ∧ rnd32 (-1 / 2 ^ 150) = 0x80000000#32 ∧ rnd32 (3 / 2 ^ 150) = 2#32 := by decide +kernel
theorem test_rnd32_constants :
    rnd32 440 = 0x43DC0000#32 ∧ rnd32 20000 = 0x469C4000#32 ∧ rnd32 21600 = 0x46A8C000#32 ∧
    rnd32 (1 / 100) = 0x3C23D70A#32 := by decide +kernel
theorem test_sine_symmetry :
    (List.range 179).all (fun k => (defaultSineTable[k + 1]?).map (· ^^^ 0x80000000#32) == defaultSineTable[359 - k]?)
      = true := by decide +kernel
theorem test_note_octaves :
    (List.range 96).all (fun n => (defaultNoteTable[n]?).map (· + 0x00800000#32) == defaultNoteTable[n + 12]?)
      = true := by decide +kernel
theorem test_exp2_halves :
    exp2Default 0x3F000000#32 = 0x3FB504F3#32 ∧ exp2Default 0xBF000000#32 = 0x3F3504F3#32 := by decide +kernel
theorem test_coefficients_1000 :
    rbjLowPassCoeffs 48000 0x447A0000#32 0#32 =
      ⟨0x3B8052DA#32, 0x3C0052DA#32, 0x3B8052DA#32, 0xBFE85D19#32, 0x3F54BCC8#32⟩ ∧
    rbjLowPassCoeffs 48000 0x447A0000#32 0x3F800000#32 =
      ⟨0x3B8B4230#32, 0x3C0B4230#32, 0x3B8B4230#32, 0xBFFC2A08#32, 0x3F7CAE21#32⟩ := by decide +kernel
theorem test_coefficients_band_edges :
    rbjLowPassCoeffs 48000 0x41A00000#32 0#32 =
      ⟨0x35E58DAA#32, 0x36658DAA#32, 0x35E58DAA#32, 0xBFFF86AE#32, 0x3F7F0DCF#32⟩ ∧
    rbjLowPassCoeffs 48000 0x46A8C000#32 0#32 =
      ⟨0x3F4CF3A0#32, 0x3FCCF3A0#32, 0x3F4CF3A0#32, 0x3FC7CF71#32, 0x3F242F9D#32⟩ := by decide +kernel

-- Commands: the vectors of 95_test_vectors.md sections 2.2 to 2.8 and the examples of the rules.

theorem test_nop_any_fields : answer .aport 0x00FFF123456789AB#64 = some ⟨.ok, 0#32⟩ := by decide +kernel
theorem test_unassigned_before_rsv : answer .aport 0xFF000FFF00000000#64 = some ⟨.illegalOpcode, 0#32⟩ := by decide +kernel
theorem test_unit_before_operand : answer .aport 0x020070007FC00000#64 = some ⟨.illegalUnit, 0#32⟩ := by decide +kernel
theorem test_wrong_port : answer .cport 0x0200000043DC0000#64 = some ⟨.wrongPort, 0#32⟩ := by decide +kernel
theorem test_bad_instance : answer .aport 0x0201000043DC0000#64 = some ⟨.badInstance, 0#32⟩ := by decide +kernel
theorem test_reserved_rsv : answer .aport 0x0200000143DC0000#64 = some ⟨.reservedBits, 0#32⟩ := by decide +kernel
theorem test_oscSetWaveform_square : (voiceAfter V0 0x0100000000000001#64).map (·.vco1.wave) = some .square := by decide +kernel
theorem test_oscSetWaveform_seven : answer .aport 0x0100000000000007#64 = some ⟨.contractViolation, 0#32⟩ := by decide +kernel
theorem test_oscSetFrequency_lfo :
    (voiceAfter V0 0x0200200040A00000#64).map (fun V => (V.lfoVco.base, V.lfoVco.eff)) =
      some (0x40A00000#32, 0x40A00000#32) := by decide +kernel
theorem test_oscSetFrequency_negative : answer .aport 0x02000000C3DC0000#64 = some ⟨.contractViolation, 0#32⟩ := by decide +kernel
theorem test_oscSetMidiNote_60 : (voiceAfter V0 0x030000000000003C#64).map (·.vco1.eff) = some 0x4382D013#32 := by decide +kernel
theorem test_oscSetMidiNote_108 : voiceAfter V0 0x030000000000006C#64 = some V0 := by decide +kernel
theorem test_oscSetDetune_one :
    (voiceAfter V0 0x040000003F800000#64).map (fun V => (V.vco1.detune, V.vco1.eff)) =
      some (0x3F000000#32, 0x441B9041#32) := by decide +kernel
theorem test_oscSetDetune_minus_zero :
    (voiceAfter V0 0x0400000080000000#64).map (fun V => (V.vco1.detune, V.vco1.eff)) =
      some (0#32, 0x43DC0000#32) := by decide +kernel
theorem test_oscSetOctave_down :
    (voiceAfter V0 0x05000000FFFFFFFD#64).map (fun V => (V.vco1.octave, V.vco1.eff)) =
      some (0xFFFFFFFD#32, 0x425C0000#32) := by decide +kernel
theorem test_oscSetOctave_three : answer .aport 0x0500000000000003#64 = some ⟨.contractViolation, 0#32⟩ := by decide +kernel
theorem test_oscSetModDepth_minus_zero : (voiceAfter V0 0x0600000080000000#64).map (·.vco1.depth) = some 0x80000000#32 := by decide +kernel
theorem test_oscSetModDepth_above_one : answer .aport 0x060000003F800001#64 = some ⟨.contractViolation, 0#32⟩ := by decide +kernel
theorem test_oscSetSeed_one : (voiceAfter V0 0x0700100000000001#64).map (·.vco2.noise) = some 1#32 := by decide +kernel
theorem test_oscSetSeed_zero : answer .aport 0x0700100000000000#64 = some ⟨.contractViolation, 0#32⟩ := by decide +kernel
theorem test_oscAdvance_noise :
    (voiceAfter { V0 with vco1 := { V0.vco1 with wave := .noise } } 0x0800000000000000#64).map
      (fun V => (V.vco1.noise, V.vco1.out)) = some (0x80200003#32, 0x3A800000#32) := by decide +kernel
theorem test_oscAdvance_modulated_period :
    (voiceAfter
      { V0 with
        vco1 := { V0.vco1 with wave := .sawtooth, depth := 0x3F000000#32, phase := 111#32 }
        lfoVco := { V0.lfoVco with out := 0xBF800000#32 } } 0x0800000000000000#64).map
      (fun V => (V.vco1.phase, V.vco1.out)) = some (0#32, rnd32 (110 / 112)) := by decide +kernel
theorem test_oscRead : answer .aport 0x0900400000000000#64 = some ⟨.ok, 0#32⟩ := by decide +kernel
theorem test_waveforms_at_120 :
    waveOut defaultParams .sine 30 120 = some 0x3F800000#32 ∧ waveOut defaultParams .square 60 120 = some 0xBF800000#32 ∧
    waveOut defaultParams .sawtooth 1 120 = some 0xBF7BBBBC#32 ∧
    waveOut defaultParams .triangle 61 120 = some 0x3F777777#32 ∧
    waveOut defaultParams .pulse8 15 120 = some 0xBF800000#32 ∧
    waveOut defaultParams .pulse4 29 120 = some 0x3F800000#32 := by decide +kernel
theorem test_period_bounds :
    periodOf defaultParams 0x49742400#32 = 1 ∧ periodOf defaultParams 0x43DC0000#32 = 109 ∧
    periodOf defaultParams 0x00000001#32 = 2 ^ 32 - 1 := by decide +kernel
theorem test_eff_overflow_and_underflow :
    effOf defaultParams 0x7F7FFFFF#32 0#32 2#32 = 0x7F800000#32 ∧
    effOf defaultParams 0x00000001#32 0#32 0xFFFFFFFF#32 = 0#32 := by decide +kernel
theorem test_defaultFcMax_44100 : defaultFcMax 48000 = 0x46A8C000#32 ∧ defaultFcMax 44100 = rnd32 19845 := by decide +kernel
theorem test_oscStep_zero_eff :
    (let o : Osc := { V0.vco1 with eff := 0#32, depth := 0x3F800000#32, out := 0x3F000000#32 }
     (oscStep defaultParams o none = o ∧ oscStep defaultParams o (some 0xBF800000#32) = o) ∧
     (oscStep defaultParams o (some 0x3F800000#32)).phase = 1#32) := by decide +kernel
theorem test_egSetAttack :
    (voiceAfter V0 0x100060003C23D70A#64).map (fun V => (V.egVca.attack, segLen defaultParams V.egVca.attack)) =
      some (0x3C23D70A#32, 480) := by decide +kernel
theorem test_egSetAttack_infinite : answer .aport 0x100060007F800000#64 = some ⟨.contractViolation, 0#32⟩ := by decide +kernel
theorem test_egSetDecay_minus_zero : (voiceAfter V0 0x1100500080000000#64).map (·.egVcf.decay) = some 0x80000000#32 := by decide +kernel
theorem test_egSetSustain_above_one : answer .aport 0x120050003F800001#64 = some ⟨.contractViolation, 0#32⟩ := by decide +kernel
theorem test_egSetSustain_half : (voiceAfter V0 0x120060003F000000#64).map (·.egVca.sustain) = some 0x3F000000#32 := by decide +kernel
theorem test_egSetRelease :
    (voiceAfter V0 0x130060003A83126F#64).map (fun V => (V.egVca.release, segLen defaultParams V.egVca.release)) =
      some (0x3A83126F#32, 48) := by decide +kernel
theorem test_egNoteOn_retrigger :
    (voiceAfter { V0 with egVca := { V0.egVca with level := 0x3E99999A#32, segCount := 9#32 } } 0x140060003F4CCCCD#64).map
      (·.egVca) =
      some { V0.egVca with
        state := .attack, level := 0x3E99999A#32, peak := 0x3F4CCCCD#32, segStart := 0x3E99999A#32 } := by decide +kernel
theorem test_egNoteOff_sustain :
    (voiceAfter { V0 with egVcf := { V0.egVcf with state := .sustain, level := 0x3F000000#32 } } 0x1500500000000000#64).map
      (fun V => (V.egVcf.state, V.egVcf.segStart)) = some (.release, 0x3F000000#32) := by decide +kernel
theorem test_egAdvance_attack_line :
    (voiceAfter
      { V0 with
        egVca := { V0.egVca with state := .attack, attack := 0x38D1B717#32, peak := 0x3F800000#32, segCount := 2#32 } }
      0x1600600000000000#64).map (fun V => (V.egVca.level, V.egVca.segCount)) = some (0x3F19999A#32, 3#32) := by decide +kernel
theorem test_egAdvance_attack_ends :
    (voiceAfter { V0 with egVca := { V0.egVca with state := .attack, peak := 0x3F800000#32 } } 0x1600600000000000#64).map
      (fun V => (V.egVca.level, V.egVca.state, V.egVca.segStart)) = some (0x3F800000#32, .decay, 0x3F800000#32) := by decide +kernel
theorem test_egAdvance_decay_and_release_lines :
    (egStep defaultParams
      { resetEg with
        state := .decay, decay := 0x38D1B717#32, sustain := 0x3F000000#32, peak := 0x3F800000#32,
        segStart := 0x3F800000#32, segCount := 2#32 }).level = 0x3F333333#32 ∧
    (egStep defaultParams
      { resetEg with state := .release, release := 0x38D1B717#32, segStart := 0x3F000000#32, segCount := 3#32 }).level
      = 0x3DCCCCCD#32 := by decide +kernel
theorem test_egRead :
    answerOf (stateWith { V0 with egVca := { V0.egVca with level := 0x3E99999A#32 } } resetDecoder .aport 0x1700600000000000#64)
      .aport = some ⟨.ok, 0x3E99999A#32⟩ := by decide +kernel
theorem test_vcfSetCutoff : (voiceAfter V0 0x20007000447A0000#64).map (·.vcf.cutoff) = some 0x447A0000#32 := by decide +kernel
theorem test_vcfSetCutoff_zero : answer .aport 0x2000700000000000#64 = some ⟨.contractViolation, 0#32⟩ := by decide +kernel
theorem test_vcfSetResonance_one : (voiceAfter V0 0x210070003F800000#64).map (·.vcf.resonance) = some 0x3F800000#32 := by decide +kernel
theorem test_vcfSetResonance_negative : answer .aport 0x21007000BF800000#64 = some ⟨.contractViolation, 0#32⟩ := by decide +kernel
theorem test_vcfSetModVolume : (voiceAfter V0 0x220070003F000000#64).map (·.vcf.modvol) = some 0x3F000000#32 := by decide +kernel
theorem test_vcfAdvance_modulated :
    (voiceAfter
      { V0 with
        vcf := { V0.vcf with modvol := 0x3F000000#32 }, mix := { out := 0x3F800000#32 }
        lfoVcf := { V0.lfoVcf with out := 0x3F000000#32 }, egVcf := { V0.egVcf with level := 0x3F000000#32 } }
      0x2300700000000000#64).map (fun V => (V.vcf.out, V.vcf.x1, V.vcf.y1)) =
      some (0x3E36E52D#32, 0x3F800000#32, 0x3E36E52D#32) := by decide +kernel
theorem test_vcf_clamp :
    (vcfStep defaultParams
      { V0.vcf with cutoff := 0x447A0000#32, resonance := 0x3F800000#32, x1 := 0x3F800000#32, x2 := 0x3F800000#32,
                    y1 := 0x3F642C48#32, y2 := 0x3F454F11#32 } 0x3F800000#32 0#32 0x3F800000#32).out = 0x3F800000#32 := by decide +kernel
theorem test_vcfRead : answer .aport 0x2400700000000000#64 = some ⟨.ok, 0#32⟩ := by decide +kernel
theorem test_vcaSetModVolume : (voiceAfter V0 0x280080003F000000#64).map (·.vca.modvol) = some 0x3F000000#32 := by decide +kernel
theorem test_vcaSetModVolume_nan : answer .aport 0x280080007FC00000#64 = some ⟨.contractViolation, 0#32⟩ := by decide +kernel
theorem test_vcaAdvance :
    (voiceAfter
      { V0 with
        vca := { V0.vca with modvol := 0x3F800000#32 }, vcf := { V0.vcf with out := 0xBF800000#32 }
        egVca := { V0.egVca with level := 0x3F499326#32 } } 0x2900800000000000#64).map (·.vca.out) =
      some 0xBEC99326#32 := by decide +kernel
theorem test_vcaRead : answer .aport 0x2A00800000000000#64 = some ⟨.ok, 0#32⟩ := by decide +kernel
theorem test_mixAdvance :
    (voiceAfter
      { V0 with vco1 := { V0.vco1 with out := 0x3F7FF605#32 }, vco2 := { V0.vco2 with out := 0xBC164FDA#32 } }
      0x3000900000000000#64).map (·.mix.out) = some 0x3EFD9CC6#32 := by decide +kernel
theorem test_mixRead :
    answerOf (stateWith { V0 with mix := { out := 0x3EFD9CC6#32 } } resetDecoder .aport 0x3100900000000000#64) .aport =
      some ⟨.ok, 0x3EFD9CC6#32⟩ := by decide +kernel
theorem test_voiceNoteOn_60_100 :
    (voiceAfter V0 0x3800A0000000643C#64).map
      (fun V => (V.key, V.vco1.base, V.vco2.eff, V.egVcf.peak, V.egVca.state)) =
      some (60#8, 0x4382D013#32, 0x4382D013#32, 0x3F499326#32, .attack) := by decide +kernel
theorem test_voiceNoteOn_key_127 :
    (voiceAfter V0 0x3800A0000000017F#64).map (fun V => (V.key, V.vco1.base, V.egVca.peak)) =
      some (127#8, 0x43DC0000#32, 0x3C010204#32) := by decide +kernel
theorem test_voiceNoteOff_keeps_key :
    (voiceAfter { V0 with key := 60#8 } 0x3900A00000000000#64).map (fun V => (V.key, V.egVcf.state, V.egVca.state)) =
      some (60#8, .release, .release) := by decide +kernel
theorem test_voiceAdvance_from_reset :
    (voiceAfter V0 0x3A00A00000000000#64).map
      (fun V => (V.vco1.phase, V.lfoVca.phase, V.vcf.out, V.vca.out)) = some (1#32, 1#32, 0#32, 0#32) := by decide +kernel
theorem test_voiceAdvance_reads_current_samples :
    (voiceAfter
      { V0 with
        vco1 := { V0.vco1 with wave := .square }, vco2 := { V0.vco2 with wave := .square }
        lfoVca := { V0.lfoVca with wave := .square }
        egVcf := { V0.egVcf with state := .attack, peak := 0x3F800000#32 }
        egVca := { V0.egVca with state := .attack, peak := 0x3F800000#32 } } 0x3A00A00000000000#64).map
      (fun V => (V.mix.out, V.vcf.out, V.vca.out)) = some (0x3F800000#32, 0x3F30765E#32, 0x3F30765E#32) := by decide +kernel
theorem test_voiceRead :
    answerOf (stateWith { V0 with vca := { V0.vca with out := 0xBEC99326#32 } } resetDecoder .aport 0x3B00A00000000000#64)
      .aport = some ⟨.ok, 0xBEC99326#32⟩ := by decide +kernel
theorem test_voiceState_releasing :
    answerOf (stateWith { V0 with egVca := { V0.egVca with state := .release } } resetDecoder .aport 0x3C00A00000000000#64)
      .aport = some ⟨.ok, 2#32⟩ := by decide +kernel
theorem test_voiceKey_idle : answer .aport 0x3D00A00000000000#64 = some ⟨.ok, 0xFF#32⟩ := by decide +kernel
theorem test_voiceKey_active :
    answerOf (stateWith { V0 with key := 0x3C#8, egVca := { V0.egVca with state := .sustain } } resetDecoder .aport
      0x3D00A00000000000#64) .aport = some ⟨.ok, 0x3C#32⟩ := by decide +kernel
theorem test_readReg_noise : answer .aport 0x3F00100000000008#64 = some ⟨.ok, 2#32⟩ := by decide +kernel
theorem test_readReg_decoder_past_the_end : answer .cport 0x3F00B00000000005#64 = some ⟨.contractViolation, 0#32⟩ := by decide +kernel
theorem test_decByte_event :
    answerOf (stateWith V0 { resetDecoder with state := .readStop, address := 5#7, value := 64#14 } .cport
      0x4000B000000000C1#64) .cport = some ⟨.ok, 0x80014040#32⟩ := by decide +kernel
theorem test_decByte_resync :
    decoderAfter { resetDecoder with state := .readValue1, address := 5#7 } 0x4000B00000000080#64 =
      some { resetDecoder with state := .readAddress, frameErr := 1#32 } := by decide +kernel
theorem test_dec_parity_failure :
    decStep { resetDecoder with state := .readStop, address := 5#7, value := 64#14 } 0xC0#8 =
      ({ resetDecoder with address := 5#7, value := 64#14, parityErr := 1#32 }, none) := by decide +kernel
theorem test_decClearCounters :
    decoderAfter { resetDecoder with state := .readValue1, address := 5#7, frameErr := 3#32, parityErr := 1#32 }
      0x4100B00000000000#64 = some { resetDecoder with state := .readValue1, address := 5#7 } := by decide +kernel
theorem test_reset_event :
    (match step { State.reset with voices := [{ V0 with key := 60#8 }], inputs := [.reset] } with
      | .next t => t.voices
      | _ => []) = [V0] := by decide +kernel


-- The textual syntax: rows of 95_test_vectors.md section 2.1 and the expansion of R123.

theorem test_assemble_frequency :
    (assembleLine "OSC_SET_FREQUENCY V0.VCO1, 440.0 ; A4".toList).map (·.map encode) = some [0x0200000043DC0000#64] := by decide +kernel
theorem test_assemble_note_on_and_register :
    (assembleLine "VOICE_NOTE_ON V0.VOICE, 69, 100".toList).map (·.map encode) = some [0x3800A00000006445#64] ∧
    (assembleLine "READ_REG D0, FRAME_ERR".toList).map (·.map encode) = some [0x3F00B00000000003#64] := by decide +kernel
theorem test_assemble_message :
    (assembleLine "DEC_MESSAGE D0, 5, 64".toList).map (·.map fun i => i.fields.operand) =
      some [0x80#32, 0x05#32, 0x00#32, 0x40#32, 0xC1#32] := by decide +kernel
theorem test_print_and_assemble_other_unit :
    printInstr (.oscRead ⟨0#8, 7#4, 0#12, 0#32⟩) = some "OSC_READ V0.VCF".toList ∧
    assembleLine "OSC_READ V0.VCF".toList = some [.oscRead ⟨0#8, 7#4, 0#12, 0#32⟩] ∧
    printInstr (.oscRead ⟨0#8, 7#4, 1#12, 0#32⟩) = none := by decide +kernel
theorem test_print_octave :
    printInstr (.oscSetOctave ⟨0#8, 0#4, 0#12, 0xFFFFFFFD#32⟩) = some "OSC_SET_OCTAVE V0.VCO1, -3".toList := by decide +kernel

-- Witnesses for the hypotheses of the statements. `clean` commands reach their target with no reserved bit set;
-- `dirty` ones have RSV = 1.

/-- A command to a unit of voice 0, or to decoder 0. -/
def cmd (u : UnitId) (x : BitVec 32) : CommandFields := fieldsFor 0#8 u x

/-- The same with RSV = 1. -/
def cmdRsv (u : UnitId) (x : BitVec 32) : CommandFields := { cmd u x with rsv := 1#12 }

/-- The state after reset on CPORT. -/
def resetC : State := { State.reset with port := .cport }

/-- A command reaches the unit with no reserved bit set, and with RSV = 1 it reaches it too. -/
def Clean (u : UnitId) (fmt : OperandFormat) (x : BitVec 32) : Prop :=
  VoiceReached u (cmd u x) State.reset V0 ∧ reservedBitsSet fmt (cmd u x) = false ∧
  VoiceReached u (cmdRsv u x) State.reset V0 ∧ reservedBitsSet fmt (cmdRsv u x) = true

/-- The same for decoder 0. -/
def CleanDec (fmt : OperandFormat) (x : BitVec 32) : Prop :=
  DecoderReached (cmd .dec x) resetC resetDecoder ∧ reservedBitsSet fmt (cmd .dec x) = false ∧
  DecoderReached (cmdRsv .dec x) resetC resetDecoder ∧ reservedBitsSet fmt (cmdRsv .dec x) = true

theorem reached {u : UnitId} (h : u ≠ .dec) (c : CommandFields) (hu : unitOfCode c.unit = some u) (hi : c.inst = 0#8) :
    VoiceReached u c State.reset V0 := by
  refine ⟨hu, h, rfl, ?_⟩
  rw [hi]
  rfl

theorem clean {u : UnitId} (h : u ≠ .dec) {fmt : OperandFormat} {x : BitVec 32}
    (hx : reservedBitsSet fmt (cmd u x) = false) : Clean u fmt x :=
  ⟨reached h _ (by cases u <;> (try rename_i a; cases a) <;> rfl) rfl, hx,
    reached h _ (by cases u <;> (try rename_i a; cases a) <;> rfl) rfl, rfl⟩

theorem cleanDec {fmt : OperandFormat} {x : BitVec 32} (hx : reservedBitsSet fmt (cmd .dec x) = false) :
    CleanDec fmt x :=
  ⟨⟨rfl, rfl, rfl⟩, hx, ⟨rfl, rfl, rfl⟩, rfl⟩

/-- The state after reset with one pending command. -/
def pending (p : Port) (w : CommandWord) : State := { State.reset with inputs := [.command p w] }

theorem test_witness_OscSetWaveformResult :
    Clean (.osc .vco1) .wave 0x00000007#32 ∧
    (cmd (.osc .vco1) 0x00000007#32).operand.extractLsb' 0 3 = 7#3 ∧
    Clean (.osc .vco1) .wave 0x00000006#32 ∧
    ([.sine, .square, .sawtooth, .triangle, .pulse8, .pulse4, .noise] : List Waveform)[
      ((cmd (.osc .vco1) 0x00000006#32).operand.extractLsb' 0 3).toNat]? = some .noise ∧
    Clean (.osc .lfoVca) .wave 0x00000000#32 ∧
    ([.sine, .square, .sawtooth, .triangle, .pulse8, .pulse4, .noise] : List Waveform)[
      ((cmd (.osc .lfoVca) 0x00000000#32).operand.extractLsb' 0 3).toNat]? = some .sine :=
  ⟨clean (by decide) (by decide),
   by decide,
   clean (by decide) (by decide),
   by decide,
   clean (by decide) (by decide),
   by decide⟩
theorem test_witness_OscSetPitchResult :
    Clean (.osc .vco1) .f32 0x00000001#32 ∧
    FiniteWith 0x00000001#32 (fun q => 0 < q) ∧
    Clean (.osc .vco1) .f32 0x80000000#32 ∧
    ¬FiniteWith 0x80000000#32 (fun q => 0 < q) ∧
    Clean (.osc .vco1) .f32 0x7F800000#32 ∧
    ¬FiniteWith 0x7F800000#32 (fun q => 0 < q) ∧
    Clean (.osc .vco1) .u32 0x0000006B#32 ∧
    (0x0000006B#32).toNat < 108 ∧
    Clean (.osc .vco1) .u32 0x0000006C#32 ∧
    108 ≤ (0x0000006C#32).toNat :=
  ⟨clean (by decide) (by decide),
   by rw [finiteWith_iff]; decide +kernel,
   clean (by decide) (by decide),
   by rw [finiteWith_iff]; decide +kernel,
   clean (by decide) (by decide),
   by rw [finiteWith_iff]; decide +kernel,
   clean (by decide) (by decide),
   by decide,
   clean (by decide) (by decide),
   by decide⟩
theorem test_witness_OscSetDetuneOctaveResult :
    Clean (.osc .vco1) .f32 0x3F800000#32 ∧
    FiniteWith 0x3F800000#32 (fun q => -1 ≤ q ∧ q ≤ 1) ∧
    Clean (.osc .vco1) .f32 0xBF800000#32 ∧
    FiniteWith 0xBF800000#32 (fun q => -1 ≤ q ∧ q ≤ 1) ∧
    Clean (.osc .vco1) .f32 0x3F800001#32 ∧
    ¬FiniteWith 0x3F800001#32 (fun q => -1 ≤ q ∧ q ≤ 1) ∧
    Clean (.osc .vco1) .f32 0x7FC00000#32 ∧
    ¬FiniteWith 0x7FC00000#32 (fun q => -1 ≤ q ∧ q ≤ 1) ∧
    Clean (.osc .vco1) .s32 0xFFFFFFFD#32 ∧
    (-3 ≤ (0xFFFFFFFD#32).toInt ∧ (0xFFFFFFFD#32).toInt ≤ 2) ∧
    Clean (.osc .vco1) .s32 0x00000002#32 ∧
    (-3 ≤ (0x00000002#32).toInt ∧ (0x00000002#32).toInt ≤ 2) ∧
    Clean (.osc .vco1) .s32 0x00000003#32 ∧
    ¬(-3 ≤ (0x00000003#32).toInt ∧ (0x00000003#32).toInt ≤ 2) ∧
    Clean (.osc .vco1) .s32 0xFFFFFFFC#32 ∧
    ¬(-3 ≤ (0xFFFFFFFC#32).toInt ∧ (0xFFFFFFFC#32).toInt ≤ 2) :=
  ⟨clean (by decide) (by decide),
   by rw [finiteWith_iff]; decide +kernel,
   clean (by decide) (by decide),
   by rw [finiteWith_iff]; decide +kernel,
   clean (by decide) (by decide),
   by rw [finiteWith_iff]; decide +kernel,
   clean (by decide) (by decide),
   by rw [finiteWith_iff]; decide +kernel,
   clean (by decide) (by decide),
   by decide,
   clean (by decide) (by decide),
   by decide,
   clean (by decide) (by decide),
   by decide,
   clean (by decide) (by decide),
   by decide⟩
theorem test_witness_OscSetDepthSeedResult :
    Clean (.osc .vco1) .f32 0x3F800000#32 ∧
    FiniteWith 0x3F800000#32 (fun q => 0 ≤ q ∧ q ≤ 1) ∧
    Clean (.osc .vco1) .f32 0x80000000#32 ∧
    FiniteWith 0x80000000#32 (fun q => 0 ≤ q ∧ q ≤ 1) ∧
    Clean (.osc .vco1) .f32 0x3F800001#32 ∧
    ¬FiniteWith 0x3F800001#32 (fun q => 0 ≤ q ∧ q ≤ 1) ∧
    Clean (.osc .vco1) .u32 0x00000000#32 ∧
    Clean (.osc .vco1) .u32 0x00000001#32 ∧
    (0x00000001#32) ≠ 0#32 :=
  ⟨clean (by decide) (by decide),
   by rw [finiteWith_iff]; decide +kernel,
   clean (by decide) (by decide),
   by rw [finiteWith_iff]; decide +kernel,
   clean (by decide) (by decide),
   by rw [finiteWith_iff]; decide +kernel,
   clean (by decide) (by decide),
   clean (by decide) (by decide),
   by decide⟩
theorem test_witness_OscAdvanceReadResult :
    Clean (.osc .vco2) .none 0x00000000#32 ∧
    Clean (.osc .lfoVca) .none 0x00000000#32 :=
  ⟨clean (by decide) (by decide),
   clean (by decide) (by decide)⟩
theorem test_witness_EgSettersResult :
    Clean (.eg .vcf) .f32 0x80000000#32 ∧
    FiniteWith 0x80000000#32 (fun q => 0 ≤ q) ∧
    Clean (.eg .vca) .f32 0x7F7FFFFF#32 ∧
    FiniteWith 0x7F7FFFFF#32 (fun q => 0 ≤ q) ∧
    Clean (.eg .vca) .f32 0x80000001#32 ∧
    ¬FiniteWith 0x80000001#32 (fun q => 0 ≤ q) ∧
    Clean (.eg .vca) .f32 0x7F800000#32 ∧
    ¬FiniteWith 0x7F800000#32 (fun q => 0 ≤ q) ∧
    Clean (.eg .vcf) .f32 0x3F800000#32 ∧
    FiniteWith 0x3F800000#32 (fun q => 0 ≤ q ∧ q ≤ 1) ∧
    Clean (.eg .vcf) .f32 0x3F800001#32 ∧
    ¬FiniteWith 0x3F800001#32 (fun q => 0 ≤ q ∧ q ≤ 1) :=
  ⟨clean (by decide) (by decide),
   by rw [finiteWith_iff]; decide +kernel,
   clean (by decide) (by decide),
   by rw [finiteWith_iff]; decide +kernel,
   clean (by decide) (by decide),
   by rw [finiteWith_iff]; decide +kernel,
   clean (by decide) (by decide),
   by rw [finiteWith_iff]; decide +kernel,
   clean (by decide) (by decide),
   by rw [finiteWith_iff]; decide +kernel,
   clean (by decide) (by decide),
   by rw [finiteWith_iff]; decide +kernel⟩
theorem test_witness_EgNotesAdvanceReadResult :
    Clean (.eg .vca) .f32 0x00000000#32 ∧
    FiniteWith 0x00000000#32 (fun q => 0 ≤ q ∧ q ≤ 1) ∧
    Clean (.eg .vcf) .f32 0x3F800000#32 ∧
    FiniteWith 0x3F800000#32 (fun q => 0 ≤ q ∧ q ≤ 1) ∧
    Clean (.eg .vca) .f32 0x3F800001#32 ∧
    ¬FiniteWith 0x3F800001#32 (fun q => 0 ≤ q ∧ q ≤ 1) ∧
    Clean (.eg .vca) .none 0x00000000#32 :=
  ⟨clean (by decide) (by decide),
   by rw [finiteWith_iff]; decide +kernel,
   clean (by decide) (by decide),
   by rw [finiteWith_iff]; decide +kernel,
   clean (by decide) (by decide),
   by rw [finiteWith_iff]; decide +kernel,
   clean (by decide) (by decide)⟩
theorem test_witness_VcfCommandsResult :
    Clean .vcf .f32 0x00000001#32 ∧
    FiniteWith 0x00000001#32 (fun q => 0 < q) ∧
    Clean .vcf .f32 0x00000000#32 ∧
    ¬FiniteWith 0x00000000#32 (fun q => 0 < q) ∧
    Clean .vcf .f32 0x3F800000#32 ∧
    FiniteWith 0x3F800000#32 (fun q => 0 ≤ q ∧ q ≤ 1) ∧
    Clean .vcf .f32 0xBF800000#32 ∧
    ¬FiniteWith 0xBF800000#32 (fun q => 0 ≤ q ∧ q ≤ 1) ∧
    Clean .vcf .none 0x00000000#32 :=
  ⟨clean (by decide) (by decide),
   by rw [finiteWith_iff]; decide +kernel,
   clean (by decide) (by decide),
   by rw [finiteWith_iff]; decide +kernel,
   clean (by decide) (by decide),
   by rw [finiteWith_iff]; decide +kernel,
   clean (by decide) (by decide),
   by rw [finiteWith_iff]; decide +kernel,
   clean (by decide) (by decide)⟩
theorem test_witness_AmpMixCommandsResult :
    Clean .vca .f32 0x3F800000#32 ∧
    FiniteWith 0x3F800000#32 (fun q => 0 ≤ q ∧ q ≤ 1) ∧
    Clean .vca .f32 0x7FC00000#32 ∧
    ¬FiniteWith 0x7FC00000#32 (fun q => 0 ≤ q ∧ q ≤ 1) ∧
    Clean .vca .none 0x00000000#32 ∧
    Clean .mix .none 0x00000000#32 :=
  ⟨clean (by decide) (by decide),
   by rw [finiteWith_iff]; decide +kernel,
   clean (by decide) (by decide),
   by rw [finiteWith_iff]; decide +kernel,
   clean (by decide) (by decide),
   clean (by decide) (by decide)⟩
theorem test_witness_VoiceNoteOnResult :
    Clean .voice .keyvel 0x00000180#32 ∧
    127 < (keyOperand (cmd .voice 0x00000180#32)).toNat ∧
    Clean .voice .keyvel 0x0000003C#32 ∧
    (velocityOperand (cmd .voice 0x0000003C#32)).toNat = 0 ∧
    Clean .voice .keyvel 0x0000803C#32 ∧
    127 < (velocityOperand (cmd .voice 0x0000803C#32)).toNat ∧
    Clean .voice .keyvel 0x0000016B#32 ∧
    ((keyOperand (cmd .voice 0x0000016B#32)).toNat = 107 ∧ (velocityOperand (cmd .voice 0x0000016B#32)).toNat = 1) ∧
    Clean .voice .keyvel 0x00007F6C#32 ∧
    ((keyOperand (cmd .voice 0x00007F6C#32)).toNat = 108 ∧ (velocityOperand (cmd .voice 0x00007F6C#32)).toNat = 127) ∧
    Clean .voice .keyvel 0x0000647F#32 ∧
    ((keyOperand (cmd .voice 0x0000647F#32)).toNat = 127 ∧ (velocityOperand (cmd .voice 0x0000647F#32)).toNat = 100) :=
  ⟨clean (by decide) (by decide),
   by decide,
   clean (by decide) (by decide),
   by decide,
   clean (by decide) (by decide),
   by decide,
   clean (by decide) (by decide),
   by decide,
   clean (by decide) (by decide),
   by decide,
   clean (by decide) (by decide),
   by decide⟩
theorem test_witness_VoiceCommandsResult : Clean .voice .none 0x00000000#32 := clean (by decide) (by decide)
theorem test_witness_VoiceFree :
    Clean .voice .none 0x00000000#32 ∧
    V0.key.toNat ≤ 127 :=
  ⟨clean (by decide) (by decide),
   by decide⟩
theorem test_witness_ReadRegResult :
    Clean (.osc .vco1) .regidx 8#32 ∧ (voiceUnitRegs V0 (.osc .vco1))[(8#32).toNat]? = some 1#32 ∧
    Clean (.osc .vco1) .regidx 9#32 ∧ (voiceUnitRegs V0 (.osc .vco1)).length ≤ (9#32).toNat ∧
    Clean .voice .regidx 1#32 ∧ (voiceUnitRegs V0 .voice).length ≤ (1#32).toNat ∧
    CleanDec .regidx 4#32 ∧ (decRegs resetDecoder)[(4#32).toNat]? = some 0#32 ∧
    CleanDec .regidx 5#32 ∧ (decRegs resetDecoder).length ≤ (5#32).toNat :=
  ⟨clean (by decide) (by decide), by decide +kernel, clean (by decide) (by decide), by decide +kernel,
   clean (by decide) (by decide), by decide +kernel, cleanDec (by decide), by decide +kernel, cleanDec (by decide),
   by decide +kernel⟩
theorem test_witness_DecoderCommandsResult : CleanDec .byte 0xFF#32 ∧ CleanDec .byte 0#32 ∧ CleanDec .none 0#32 :=
  ⟨cleanDec (by decide), cleanDec (by decide), cleanDec (by decide)⟩
theorem test_witness_EncodeDecode : decode 0x0000000000000000#64 = .ok (.nop ⟨0#8, 0#4, 0#12, 0#32⟩) := by decide
theorem test_witness_StepRunsDecoded :
    (pending .aport 0x3800A0000000643C#64).inputs = [.command .aport 0x3800A0000000643C#64] ∧
    decode 0x3800A0000000643C#64 = .ok (.voiceNoteOn ⟨0#8, 10#4, 0#12, 0x643C#32⟩) := ⟨rfl, by decide⟩
theorem test_witness_HostEvents :
    ({ State.reset with inputs := [.reset] } : State).inputs = .reset :: [] ∧ State.reset.inputs = [] := ⟨rfl, rfl⟩
theorem test_witness_ResetState : (0 : Nat) < 1 ∧ (255 : Nat) < 256 := by decide
theorem test_witness_CommandAlwaysAnswers :
    (pending .cport 0xFF00000000000000#64).inputs = [.command .cport 0xFF00000000000000#64] := rfl
theorem test_witness_RejectionChangesNothing :
    ∃ t, step (pending .aport 0x020070007FC00000#64) = .next t ∧
      t.responsesOn .aport = (pending .aport 0x020070007FC00000#64).responsesOn .aport ++ [⟨.illegalUnit, 0#32⟩] ∧
      Status.illegalUnit ≠ .ok := ⟨_, rfl, by decide, by decide⟩
theorem test_witness_CheckOrder :
    unassignedOpcode (opcodeField 0x0A00000000000000#64).toNat ∧ unassignedOpcode (opcodeField 0xFF00000000000000#64).toNat ∧
    (Instr.readReg (cmd .vcf 0#32)).opcode ≠ 0x00#8 ∧
    unitOfCode (15#4) = none ∧ instrAccepts (.oscRead (cmd .vcf 0#32)) .vcf = false ∧
    unitOfCode (cmd .dec 0#32).unit = some .dec ∧ instrAccepts (.readReg (cmd .dec 0#32)) .dec = true ∧
    State.reset.port ≠ .cport ∧ ¬(resetC.port ≠ .cport) ∧ resetC.decoders.length ≤ (1#8).toNat ∧
    (0#8).toNat < resetC.decoders.length ∧ (cmdRsv .dec 0#32).rsv ≠ 0#12 ∧
    (0x100#32) &&& reservedMask (instrFormat (.decByte (cmd .dec 0x100#32))) ≠ 0#32 ∧
    (cmd .dec 0xFF#32).rsv = 0#12 ∧ (0xFF#32) &&& reservedMask (instrFormat (.decByte (cmd .dec 0xFF#32))) = 0#32 := by
  refine ⟨?_, ?_, ?_⟩
  · exact .inl (by decide)
  · exact .inr (.inr (.inr (.inr (.inr (.inr (by decide))))))
  · decide
theorem test_witness_ResetInvariantEveryBlock : paramsLegal defaultParams = true ∧ (1 : Nat) ≤ 256 := by decide +kernel
theorem test_witness_StepKeepsInvariant :
    ∃ t, stateOk (pending .aport 0x3800A0000000643C#64) = true ∧ step (pending .aport 0x3800A0000000643C#64) = .next t :=
  ⟨_, by decide +kernel, rfl⟩
theorem test_witness_StepKeepsParameters : ∃ t, step { State.reset with inputs := [.reset] } = .next t := ⟨_, rfl⟩
theorem test_witness_PortSeparation :
    (∃ t, step (pending .aport 0#64) = .next t) ∧ (∃ t, step (pending .cport 0x4000B00000000080#64) = .next t) ∧
    (pending .aport 0#64).params = State.reset.params ∧ (pending .aport 0#64).voices = State.reset.voices ∧
    (pending .cport 0#64).decoders = State.reset.decoders := ⟨⟨_, rfl⟩, ⟨_, rfl⟩, rfl, rfl, rfl⟩
theorem test_witness_InstanceIndependence :
    (∃ t, step (pending .aport 0x0901000000000000#64) = .next t) ∧
    (State.resetWith defaultParams 2 1).voices[0]? = (State.resetWith defaultParams 1 2).voices[0]? ∧
    (State.resetWith defaultParams 2 1).decoders[0]? = (State.resetWith defaultParams 1 2).decoders[0]? ∧
    (1 : Nat) ≠ (commandFields 0x0900000000000000#64).inst.toNat := ⟨⟨_, rfl⟩, rfl, rfl, by decide⟩
theorem test_witness_InterleavingUnobservable :
    onlyCommands [.command .aport 1#64, .command .cport 2#64] ∧ onlyCommands [.command .cport 2#64, .command .aport 1#64] ∧
    inputsOn .aport [.command .aport 1#64, .command .cport 2#64] =
      inputsOn .aport [.command .cport 2#64, .command .aport 1#64] ∧
    inputsOn .cport [.command .aport 1#64, .command .cport 2#64] =
      inputsOn .cport [.command .cport 2#64, .command .aport 1#64] := by
  refine ⟨?_, ?_, by decide, by decide⟩ <;> intro x hx <;> simp at hx <;> rcases hx with rfl | rfl <;> simp
theorem test_witness_ReadsChangeNothing : isRead (.voiceState (cmd .voice 0#32)) = true := rfl
theorem test_witness_WritesIdempotent : isIdempotentWrite (.egNoteOn (cmd (.eg .vca) 0x3F800000#32)) = true := rfl
theorem test_witness_Rnd32Nearest :
    (2 - 1 / 2 ^ 24) * 2 ^ 127 ≤ ((2 - 1 / 2 ^ 24) * 2 ^ 127 : Rat) ∧
    (-((2 - 1 / 2 ^ 24) * 2 ^ 127) : Rat) ≤ -((2 - 1 / 2 ^ 24) * 2 ^ 127) ∧
    (1 / 2 ^ 150 : Rat) ≠ 0 ∧ |(1 / 2 ^ 150 : Rat)| < (2 - 1 / 2 ^ 24) * 2 ^ 127 ∧
    f32Finite 0x00000001#32 = true ∧ |(1 / 2 ^ 150 : Rat) - val (rnd32 (1 / 2 ^ 150))| = |1 / 2 ^ 150 - val 0x00000001#32| ∧
    val 0x00000001#32 ≠ val (rnd32 (1 / 2 ^ 150)) := by
  refine ⟨le_refl _, le_refl _, by norm_num, by rw [abs_of_pos (by norm_num)]; norm_num, by decide, ?_, by decide +kernel⟩
  have h1 : val (rnd32 (1 / 2 ^ 150)) = 0 := by decide +kernel
  have h2 : val 0x00000001#32 = 1 / 2 ^ 149 := by decide +kernel
  rw [h1, h2, abs_of_pos (by norm_num), abs_of_neg (by norm_num)]
  norm_num
theorem test_witness_Rnd32OfVal :
    f32Finite 0x80000000#32 = true ∧ f32Finite 0x7F7FFFFF#32 = true ∧ f32Value 0x3F800000#32 = .finite 1 ∧
    f32Value 0xBF800000#32 = .finite (-1) ∧ f32Value 0x7F800001#32 = .nan ∧
    (0x00800000#32).extractLsb' 23 8 = 1#8 ∧ (0x7F7FFFFF#32).extractLsb' 23 8 = 254#8 ∧
    (0x7F800000#32).extractLsb' 23 8 = 255#8 := by decide +kernel
theorem test_witness_Rnd32KeepsBounds :
    f32Finite minusOne = true ∧ f32Finite plusOne = true ∧ val minusOne ≤ 1 / 3 ∧ 1 / 3 ≤ val plusOne := by decide +kernel
theorem test_witness_IntegerConversions :
    (0 : Rat) ≤ 0 ∧ FiniteWith 0x00000001#32 (fun q => 0 < q) ∧ FiniteWith 0x80000000#32 (fun q => 0 ≤ q) :=
  ⟨le_refl _, by rw [finiteWith_iff]; decide +kernel, by rw [finiteWith_iff]; decide +kernel⟩
theorem test_witness_Exp2DefaultAccuracy :
    defaultParams.exp2 = .correctlyRounded ∧ f32Within 0x3F000000#32 (-1 / 2) (1 / 2) = true ∧ f32Within 0xBF000000#32 (-1 / 2) (1 / 2) = true := by decide +kernel
theorem test_witness_EffFormula :
    exp2AtZero defaultParams = true ∧ FiniteWith 0x00800000#32 (fun b => 0 < b) ∧ FiniteWith 0x80000000#32 (fun d => d = 0) ∧
    1 / 2 ^ 126 ≤ val 0x00800000#32 * (2 : Rat) ^ (0#32).toInt ∧ val 0x00800000#32 * (2 : Rat) ^ (0#32).toInt < 2 ^ 128 ∧
    V0.vco1.octave = 0#32 ∧ V0.vco1.eff = effOf defaultParams V0.vco1.base V0.vco1.detune V0.vco1.octave := by
  have h : val 0x00800000#32 = 1 / 2 ^ 126 := by decide +kernel
  refine ⟨by decide +kernel, by rw [finiteWith_iff]; decide +kernel, by rw [finiteWith_iff]; decide +kernel, ?_, ?_, rfl,
    by decide +kernel⟩ <;> rw [h] <;> norm_num

/-- A legal substitute for EXP2: the constant 1.0 meets R24. -/
def flatParams : Params := { defaultParams with exp2 := .table [] plusOne }

theorem test_flatParams_exp2_legal : Exp2Legal flatParams := by
  have h : ∀ x, exp2Of flatParams x = plusOne := fun x => rfl
  refine ⟨rfl, rfl, fun x _ => ?_, fun x y _ _ _ => ?_⟩
  · rw [h]
    decide +kernel
  · rw [h, h]
theorem test_witness_EffBounds :
    Exp2Legal flatParams ∧ FiniteWith 0x00000001#32 (fun b => 0 < b) ∧
    FiniteWith 0xBF000000#32 (fun d => -1 / 2 ≤ d ∧ d ≤ 1 / 2) ∧ -3 ≤ (0xFFFFFFFD#32).toInt ∧ (2#32).toInt ≤ 2 ∧
    1 / 2 ^ 146 ≤ val 0x00000008#32 ∧ ({ V0.vco1 with eff := 0#32 } : Osc).eff = 0#32 ∧
    val 0xBF800000#32 * val 0x3F800000#32 ≤ 0 :=
  ⟨test_flatParams_exp2_legal, by rw [finiteWith_iff]; decide +kernel, by rw [finiteWith_iff]; decide +kernel, by decide,
   by decide, by decide +kernel, rfl, by decide +kernel⟩
theorem test_witness_OscStepRule :
    FiniteWith 0x80000000#32 (fun q => q ≤ 0) ∧ FiniteWith 0x00000001#32 (fun q => 0 < q) ∧
    ({ V0.vco1 with eff := 0x7F800000#32 } : Osc).eff = 0x7F800000#32 :=
  ⟨by rw [finiteWith_iff]; decide +kernel, by rw [finiteWith_iff]; decide +kernel, rfl⟩
theorem test_witness_OscPeriodic :
    FiniteWith (instantFrequency V0.vco1 none) (fun q => 0 < q) ∧
    ({ V0.vco1 with phase := 108#32 } : Osc).phase.toNat < periodOf defaultParams (instantFrequency V0.vco1 none) ∧
    V0.vco1.wave ≠ .noise := ⟨by rw [finiteWith_iff]; decide +kernel, by decide +kernel, by decide⟩
theorem test_witness_NoiseGenerator :
    (1#32) ≠ 0#32 ∧ (0x80000000#32) ≠ 0#32 ∧ (0 : Nat) < 2 ^ 32 - 2 ∧ 2 ^ 32 - 2 < 2 ^ 32 - 1 ∧
    2 ^ 24 - 1 < 2 ^ 24 ∧ 2 ^ 8 - 1 < 2 ^ 8 := by decide
theorem test_witness_DefaultParametersLegal : 45 ≤ 48000 ∧ 48000 ≤ 2 ^ 24 := by decide
theorem test_witness_RomIndices :
    sineTableLegal defaultParams.sineTable = true ∧ noteTableLegal defaultParams.noteTable = true ∧ (108 : Nat) < 109 ∧
    (107 : Nat) < 108 ∧ (0 : Nat) < 4 ∧ (4 : Nat) ∣ 4 := by decide +kernel
theorem test_witness_EgStepRule :
    segLen defaultParams 0#32 ≤ min ((0#32).toNat + 1) (2 ^ 32 - 1) ∧
    min ((3#32).toNat + 1) (2 ^ 32 - 1) < segLen defaultParams 0x38D1B717#32 ∧
    segLen defaultParams 0x38D1B717#32 ≤ min ((4#32).toNat + 1) (2 ^ 32 - 1) ∧
    ([.idle, .attack, .decay, .sustain, .release] : List EgState).all
      (fun st => ({ resetEg with state := st } : Eg).state = st) = true := by decide +kernel
theorem test_witness_EgTransitionTable : ({ resetEg with state := .release } : Eg).state = .release := rfl
theorem test_witness_EgDurations :
    (4 : Nat) < segLen defaultParams 0x38D1B717#32 ∧ ({ resetEg with state := .decay } : Eg).state = .decay ∧
    resetEg.segCount = 0#32 := by decide +kernel
theorem test_witness_VcfStepRule :
    f32Finite hz20 = true ∧ f32Finite hz21600 = true ∧ f32Value 0xFF800000#32 = .negInf ∧
    f32Value 0x7F800000#32 = .posInf ∧ f32Value 0x7FC00000#32 = .nan ∧
    FiniteWith 0x3F800000#32 (fun q => 0 ≤ q ∧ q ≤ 1) ∧ FiniteWith 0xBF800000#32 (fun q => -1 ≤ q ∧ q ≤ 1) :=
  ⟨by decide, by decide, by decide +kernel, by decide +kernel, by decide +kernel,
   by rw [finiteWith_iff]; decide +kernel, by rw [finiteWith_iff]; decide +kernel⟩
theorem test_witness_VcfProperties :
    f32Finite defaultParams.fcMin = true ∧ f32Finite defaultParams.fcMax = true ∧
    val defaultParams.fcMin ≤ val defaultParams.fcMax ∧
    V0.vcf.x1 = 0#32 ∧ V0.vcf.x2 = 0#32 ∧ V0.vcf.y1 = 0#32 ∧ V0.vcf.y2 = 0#32 := by decide +kernel
theorem test_witness_AmpMixRanges :
    FiniteWith 0xBF800000#32 (fun q => -1 ≤ q ∧ q ≤ 1) ∧ FiniteWith 0x3F800000#32 (fun q => 0 ≤ q ∧ q ≤ 1) ∧
    FiniteWith V0.vca.modvol (fun q => 0 ≤ q ∧ q ≤ 1) ∧ val plusOne + val minusOne = 0 :=
  ⟨by rw [finiteWith_iff]; decide +kernel, by rw [finiteWith_iff]; decide +kernel, by rw [finiteWith_iff]; decide +kernel,
   by decide +kernel⟩
theorem test_witness_VoiceAdvanceIsUnitAdvances : (0#8).toNat < State.reset.voices.length := by decide
theorem test_witness_ReturnToIdle :
    State.reset.voices[(0#8).toNat]? = some V0 ∧ segLen State.reset.params V0.egVca.release ≤ 1 := ⟨rfl, by decide +kernel⟩
theorem test_witness_SilentUntilNoteOn :
    State.reset.voices[(0#8).toNat]? = some V0 ∧ VoiceSilent V0 ∧
    VoiceSilent { V0 with egVca := { V0.egVca with state := .release } } ∧
    inputStarts 0#8 (.command .aport 0x3900A00000000000#64) = false ∧
    inputStarts 0#8 (.command .aport 0x3801A0000000643C#64) = false ∧ inputStarts 0#8 .reset = false ∧
    (∃ t, step (pending .aport 0x3900A00000000000#64) = .next t) ∧ V0.egVca.state = .idle ∧ V0.vca.out = 0#32 :=
  ⟨rfl, ⟨.inl rfl, rfl, rfl⟩, ⟨.inr ⟨rfl, rfl⟩, rfl, rfl⟩, by decide, by decide, rfl, ⟨_, rfl⟩, rfl, rfl⟩
theorem test_witness_SampleReturnsNewOutput : State.reset.voices[(0#8).toNat]? = some V0 := rfl
theorem test_witness_DecoderTable :
    (0x80#8).getLsbD 7 = true ∧ (0x7F#8).getLsbD 7 = false ∧ (0x81#8) ≠ 0x80#8 ∧ (0xC0#8) &&& 0xC0#8 = 0xC0#8 ∧
    (0xBF#8) &&& 0xC0#8 ≠ 0xC0#8 ∧ (0xFF#8) &&& 0xC0#8 = 0xC0#8 ∧
    (0xC0#8).getLsbD 0 = parity16 ((0#14).setWidth 16 ^^^ (0#7).setWidth 16) ∧
    (0xFF#8).getLsbD 0 ≠ parity16 ((0#14).setWidth 16 ^^^ (0#7).setWidth 16) ∧
    ([.start, .readAddress, .readValue1, .readValue2, .readStop] : List DecState).all
      (fun st => ({ resetDecoder with state := st } : Decoder).state = st) = true := by decide
theorem test_witness_WholeMessageDecodes :
    State.reset.decoders[(0#8).toNat]? = some resetDecoder ∧ (0xFF#8) &&& 0xC0#8 = 0xC0#8 ∧
    (0xFF#8).getLsbD 0 = parity16 ((16383#14).setWidth 16 ^^^ (127#7).setWidth 16) := ⟨rfl, by decide, by decide⟩

end Sys2Proof.Tests
end

section
/-! PROOFS. A binary32 word as an integer number of quanta of 2^-149 (R16): the bits below the sign, read as a
number, count the finite magnitudes in order. -/

namespace Sys2Proof.Machine

/-- The magnitude in quanta of 2^-149 of a word with the bits `m` below its sign (R16): it is m itself in the lowest
binade, and the quantum doubles from one binade to the next. -/
def quanta (m : Nat) : Nat :=
  if m < 2 ^ 23 then m else (2 ^ 23 + m % 2 ^ 23) * 2 ^ (m / 2 ^ 23 - 1)

/-- The bits of a word below its sign. -/
def magnitudeBits (w : F32) : Nat := w.toNat % 2 ^ 31

/-- The value of a finite word in quanta of 2^-149, with its sign. -/
def signedQuanta (w : F32) : Int := if w.msb then -(quanta (magnitudeBits w) : Int) else quanta (magnitudeBits w)

/-- With exponent k + 1 the significand n counts quanta of 2^k; n may be 2^24, the first word of the next binade, and
for k = 0 it may be a subnormal. -/
theorem quanta_binade {k n : Nat} (hn : n ≤ 2 ^ 24) (hk : k = 0 ∨ 2 ^ 23 ≤ n) :
    quanta (k * 2 ^ 23 + n) = n * 2 ^ k := by
  rcases Nat.lt_or_ge n (2 ^ 23) with hsub | hnormal
  · obtain rfl : k = 0 := by omega
    rw [zero_mul, zero_add, quanta, if_pos hsub, pow_zero, mul_one]
  · rw [quanta, if_neg (by omega)]
    rcases hn.lt_or_eq with hlt | rfl
    · have hdiv : (k * 2 ^ 23 + n) / 2 ^ 23 = k + 1 := by omega
      have hmod : 2 ^ 23 + (k * 2 ^ 23 + n) % 2 ^ 23 = n := by omega
      rw [hdiv, hmod, Nat.add_sub_cancel]
    · have hdiv : (k * 2 ^ 23 + 2 ^ 24) / 2 ^ 23 = k + 2 := by omega
      have hmod : (k * 2 ^ 23 + 2 ^ 24) % 2 ^ 23 = 0 := by omega
      rw [hdiv, hmod, show k + 2 - 1 = k + 1 from rfl, Nat.pow_succ]
      ring

/-- Every magnitude is a significand below 2^24 in some binade. -/
theorem exists_binade (m : Nat) : ∃ k n, n < 2 ^ 24 ∧ (k = 0 ∨ 2 ^ 23 ≤ n) ∧ m = k * 2 ^ 23 + n := by
  rcases Nat.lt_or_ge m (2 ^ 23) with h | h
  · exact ⟨0, m, by omega, .inl rfl, by omega⟩
  · exact ⟨m / 2 ^ 23 - 1, 2 ^ 23 + m % 2 ^ 23, by omega, .inr (by omega), by omega⟩

theorem quanta_strictMono : StrictMono quanta := by
  refine strictMono_nat_of_lt_succ fun m => ?_
  obtain ⟨k, n, hn, hk, rfl⟩ := exists_binade m
  rw [quanta_binade hn.le hk, add_assoc, quanta_binade hn (hk.imp_right fun h => by omega)]
  exact Nat.mul_lt_mul_of_pos_right n.lt_succ_self (by positivity)

/-- A magnitude outside the binades below k is a whole number of quanta of 2^k. -/
theorem dvd_quanta_or_quanta_lt (k m : Nat) : 2 ^ k ∣ quanta m ∨ quanta m < 2 ^ (k + 23) := by
  obtain ⟨j, n, hn, hj, rfl⟩ := exists_binade m
  rw [quanta_binade hn.le hj]
  rcases Nat.lt_or_ge j k with hjk | hkj
  · right
    calc n * 2 ^ j < 2 ^ 24 * 2 ^ j := Nat.mul_lt_mul_of_pos_right hn (by positivity)
      _ = 2 ^ (j + 1 + 23) := by rw [← pow_add]; congr 1; omega
      _ ≤ 2 ^ (k + 23) := Nat.pow_le_pow_right (by omega) (by omega)
  · exact .inl (Dvd.dvd.mul_left (pow_dvd_pow 2 hkj) n)

theorem f32Exponent_eq (w : F32) : f32Exponent w = magnitudeBits w / 2 ^ 23 := by
  have hw := w.isLt
  simp only [f32Exponent, magnitudeBits, BitVec.extractLsb'_toNat, Nat.shiftRight_eq_div_pow]
  omega

theorem f32Fraction_eq (w : F32) : f32Fraction w = magnitudeBits w % 2 ^ 23 := by
  simp only [f32Fraction, magnitudeBits, BitVec.extractLsb'_toNat, Nat.shiftRight_zero]
  omega

theorem f32Finite_iff (w : F32) : f32Finite w = true ↔ magnitudeBits w < 255 * 2 ^ 23 := by
  have h : magnitudeBits w < 2 ^ 31 := Nat.mod_lt _ (by omega)
  simp only [f32Finite, f32Exponent_eq, bne_iff_ne]
  omega

theorem f32Magnitude_eq (w : F32) : f32Magnitude w = (quanta (magnitudeBits w) : Rat) / 2 ^ 149 := by
  rw [f32Magnitude, f32Significand, f32Exponent_eq, f32Fraction_eq]
  generalize magnitudeBits w = m
  rw [quanta]
  rcases Nat.lt_or_ge m (2 ^ 23) with h | h
  · have hdiv : m / 2 ^ 23 = 0 := by omega
    have hmod : m % 2 ^ 23 = m := by omega
    rw [if_pos hdiv, if_pos h, hdiv, hmod, max_eq_right zero_le_one]
    push_cast
    ring
  · obtain ⟨e, he⟩ : ∃ e, m / 2 ^ 23 = e + 1 := ⟨m / 2 ^ 23 - 1, by omega⟩
    rw [if_neg (by omega), if_neg (by omega), he, Nat.add_sub_cancel, max_eq_left (by omega)]
    push_cast
    ring

/-- The value of a finite word is its signed number of quanta (R16). -/
theorem val_eq_signedQuanta {w : F32} (hw : f32Finite w = true) : val w = (signedQuanta w : Rat) / 2 ^ 149 := by
  rw [val, if_pos hw, f32Sign, f32Magnitude_eq, signedQuanta]
  split <;> push_cast <;> ring

/-- A word is its sign and the bits below it. -/
theorem eq_of_msb_of_magnitudeBits {v w : F32} (hs : v.msb = w.msb) (hm : magnitudeBits v = magnitudeBits w) :
    v = w := by
  apply BitVec.eq_of_toNat_eq
  have hv := v.isLt
  have hw := w.isLt
  rw [BitVec.msb_eq_decide, BitVec.msb_eq_decide, decide_eq_decide] at hs
  simp only [magnitudeBits] at hm
  omega

/-- A finite word with a nonzero value has the sign of its value. -/
theorem msb_eq_of_val_ne_zero {w : F32} (hw : f32Finite w = true) (h0 : val w ≠ 0) : w.msb = decide (val w < 0) := by
  rw [val_eq_signedQuanta hw, signedQuanta] at h0 ⊢
  cases hs : w.msb
  · simp only [Bool.false_eq_true, if_false, Int.cast_natCast] at h0 ⊢
    rw [eq_comm, decide_eq_false_iff_not, not_lt]
    positivity
  · simp only [hs, if_true, Int.cast_neg, Int.cast_natCast, neg_div, neg_ne_zero] at h0 ⊢
    rw [eq_comm, decide_eq_true_iff, neg_lt_zero]
    positivity

/-- Two finite words with one nonzero value are the same word. -/
theorem eq_of_val_eq {v w : F32} (hv : f32Finite v = true) (hw : f32Finite w = true) (h : val v = val w)
    (h0 : val w ≠ 0) : v = w := by
  have hs : v.msb = w.msb := by
    rw [msb_eq_of_val_ne_zero hv (h ▸ h0), msb_eq_of_val_ne_zero hw h0, h]
  refine eq_of_msb_of_magnitudeBits hs (quanta_strictMono.injective ?_)
  rw [val_eq_signedQuanta hv, val_eq_signedQuanta hw, signedQuanta, signedQuanta, hs] at h
  cases hb : w.msb <;> simpa [hb] using h

end Sys2Proof.Machine
end

section
/-! PROOFS. `rnd32` rounds to nearest, ties to even (R17). The argument is on the quotient in quanta of 2^-149: it lies
in a binade of quantum 2^k, is rounded there to n quanta, and every other finite word is a multiple of that quantum or
lies below the binade. -/

namespace Sys2Proof.Machine

/-- The number y of quanta lies in the binade of quantum 2^k (the lowest one holds the subnormals too), and n is its
nearest multiple, the even one of two. -/
structure RoundsTo (y : Rat) (k n : Nat) : Prop where
  lower : k = 0 ∨ 2 ^ (k + 23) ≤ y
  upper : y < 2 ^ (k + 24)
  near : |y - n * 2 ^ k| ≤ 2 ^ k / 2
  even : |y - n * 2 ^ k| = 2 ^ k / 2 → n % 2 = 0

theorem roundHalfEven_near (a : Nat) {d : Nat} (hd : 0 < d) :
    |(a : Rat) / d - roundHalfEven a d| ≤ 1 / 2 ∧
    (|(a : Rat) / d - roundHalfEven a d| = 1 / 2 → roundHalfEven a d % 2 = 0) := by
  have hd' : (0 : Rat) < d := by exact_mod_cast hd
  have hr : a % d < d := Nat.mod_lt a hd
  have hdiv : (a : Rat) / d = (a / d : Nat) + (a % d : Nat) / (d : Rat) := by
    rw [div_eq_iff hd'.ne', add_mul, div_mul_cancel₀ _ hd'.ne']
    exact_mod_cast (Nat.div_add_mod' a d).symm
  rw [hdiv]
  simp only [roundHalfEven]
  generalize a / d = m at *
  generalize a % d = r at *
  have hr0 : (0 : Rat) ≤ r / d := by positivity
  have hr1 : (r : Rat) / d < 1 := by rw [div_lt_one hd']; exact_mod_cast hr
  rcases Nat.lt_trichotomy (2 * r) d with h | h | h
  · have hlt : (r : Rat) / d < 1 / 2 := by
      rw [div_lt_iff₀ hd']
      have : (2 * r : Rat) < d := by exact_mod_cast h
      linarith
    rw [if_pos h, add_sub_cancel_left, abs_of_nonneg hr0]
    exact ⟨hlt.le, fun heq => absurd heq hlt.ne⟩
  · have heq : (r : Rat) / d = 1 / 2 := by
      rw [div_eq_iff hd'.ne']
      have : (2 * r : Rat) = d := by exact_mod_cast h
      linarith
    rw [if_neg (by omega), if_neg (by omega), heq]
    refine ⟨?_, fun _ => by omega⟩
    rcases Nat.mod_two_eq_zero_or_one m with hm | hm <;> rw [hm] <;> push_cast
    · rw [show (m : Rat) + 1 / 2 - (m + 0) = 1 / 2 by ring, abs_of_pos (by norm_num)]
    · rw [show (m : Rat) + 1 / 2 - (m + 1) = -(1 / 2) by ring, abs_neg, abs_of_pos (by norm_num)]
  · have hlt : 1 / 2 < (r : Rat) / d := by
      rw [lt_div_iff₀ hd']
      have : (d : Rat) < 2 * r := by exact_mod_cast h
      linarith
    rw [if_neg (by omega), if_pos h, show ((m : Rat) + r / d - (m + 1 : Nat)) = -(1 - r / d) by push_cast; ring,
      abs_neg, abs_of_pos (by linarith)]
    exact ⟨by linarith, fun heq => by linarith⟩

/-- What the model's integer computation computes: the rounding of a / d in its binade, or an infinity. -/
theorem roundMagnitude_roundsTo (a : Nat) {d : Nat} (hd : 0 < d) :
    ∃ k n, RoundsTo ((a : Rat) / d * 2 ^ 149) k n ∧ roundMagnitude a d = min (k * 2 ^ 23 + n) (255 * 2 ^ 23) := by
  set b := a * 2 ^ 149 with hb
  set k := Nat.log2 (b / d) - 23 with hk
  have hy : (a : Rat) / d * 2 ^ 149 = (b : Rat) / d := by rw [hb]; push_cast; ring
  have hd' : (0 : Rat) < d := by exact_mod_cast hd
  have hk0 : (0 : Rat) < 2 ^ k := by positivity
  have hscale : (b : Rat) / ((d * 2 ^ k : Nat) : Rat) = b / d / 2 ^ k := by push_cast; rw [div_div]
  obtain ⟨hnear, heven⟩ := roundHalfEven_near b (d := d * 2 ^ k) (by positivity)
  have habs : |(b : Rat) / d - roundHalfEven b (d * 2 ^ k) * 2 ^ k| =
      2 ^ k * |(b : Rat) / d / 2 ^ k - roundHalfEven b (d * 2 ^ k)| := by
    rw [← abs_of_pos hk0, ← abs_mul, abs_of_pos hk0, mul_sub, mul_div_cancel₀ _ hk0.ne', mul_comm ((2 : Rat) ^ k)]
  rw [hscale] at hnear heven
  refine ⟨k, roundHalfEven b (d * 2 ^ k), ⟨?_, ?_, ?_, ?_⟩, rfl⟩
  · rcases Nat.eq_zero_or_pos k with h0 | hpos
    · exact .inl h0
    · right
      have hne : b / d ≠ 0 := fun h => by simp [hk, h] at hpos
      have hle : 2 ^ (k + 23) ≤ b / d := by
        rw [show k + 23 = Nat.log2 (b / d) by omega]
        exact Nat.log2_self_le hne
      rw [hy, le_div_iff₀ hd']
      exact_mod_cast (Nat.le_div_iff_mul_le hd).mp hle
  · have hlt : b / d < 2 ^ (k + 24) :=
      Nat.lt_log2_self.trans_le (Nat.pow_le_pow_right (by omega) (by omega))
    rw [hy, div_lt_iff₀ hd']
    exact_mod_cast (Nat.div_lt_iff_lt_mul hd).mp hlt
  · rw [hy, habs, div_eq_mul_one_div ((2 : Rat) ^ k) 2]
    exact mul_le_mul_of_nonneg_left hnear hk0.le
  · rw [hy, habs]
    intro h
    exact heven (mul_left_cancel₀ hk0.ne' (h.trans (div_eq_mul_one_div _ _)))

namespace RoundsTo

variable {y : Rat} {k n : Nat}

theorem significand_le (h : RoundsTo y k n) : n ≤ 2 ^ 24 := by
  have hk : (0 : Rat) < 2 ^ k := by positivity
  have hnear := (abs_le.mp h.near).1
  have hupper := h.upper
  rw [pow_add] at hupper
  have : (n : Rat) < 2 ^ 24 + 1 := by
    by_contra hcon
    nlinarith
  exact Nat.lt_succ_iff.mp (by exact_mod_cast this)

theorem le_significand (h : RoundsTo y k n) : k = 0 ∨ 2 ^ 23 ≤ n := by
  refine h.lower.imp_right fun hlower => ?_
  have hk : (0 : Rat) < 2 ^ k := by positivity
  have hnear := (abs_le.mp h.near).2
  rw [pow_add] at hlower
  have : (2 : Rat) ^ 23 < n + 1 := by
    by_contra hcon
    nlinarith
  exact Nat.lt_succ_iff.mp (by exact_mod_cast this)

/-- The rounded number of quanta. -/
theorem quanta_eq (h : RoundsTo y k n) : quanta (k * 2 ^ 23 + n) = n * 2 ^ k :=
  quanta_binade h.significand_le h.le_significand

/-- Below the overflow bound (2 - 2^-24) × 2^127, in quanta, the result is finite. -/
theorem bits_lt (h : RoundsTo y k n) (hy : y < (2 ^ 25 - 1) * 2 ^ 252) : k * 2 ^ 23 + n < 255 * 2 ^ 23 := by
  have hn := h.significand_le
  rcases Nat.lt_trichotomy k 253 with hk | rfl | hk
  · omega
  · have hnear := (abs_le.mp h.near).1
    have heven := h.even
    have hlt : n ≠ 2 ^ 24 := by
      rintro rfl
      push_cast at hnear
      linarith
    omega
  · exfalso
    rcases h.lower with h0 | hlower
    · omega
    · have : (2 : Rat) ^ 252 * 2 ^ 25 ≤ 2 ^ (k + 23) := by
        rw [← pow_add]
        exact pow_le_pow_right₀ (by norm_num) (by omega)
      linarith

/-- From the overflow bound on, the result is an infinity: at the bound itself the tie goes to the even 2^24. -/
theorem le_bits (h : RoundsTo y k n) (hy : (2 ^ 25 - 1) * 2 ^ 252 ≤ y) : 255 * 2 ^ 23 ≤ k * 2 ^ 23 + n := by
  have hn := h.significand_le
  rcases Nat.lt_trichotomy k 253 with hk | rfl | hk
  · exfalso
    have : (2 : Rat) ^ (k + 24) ≤ 2 ^ 252 * 2 ^ 24 := by
      rw [← pow_add]
      exact pow_le_pow_right₀ (by norm_num) (by omega)
    have := h.upper
    linarith
  · have hge : 2 ^ 24 - 1 ≤ n := by
      have hnear := (abs_le.mp h.near).2
      have : (2 : Rat) ^ 24 - 1 ≤ n := by linarith
      have : (2 : Rat) ^ 24 ≤ n + 1 := by linarith
      have : 2 ^ 24 ≤ n + 1 := by exact_mod_cast this
      omega
    have hne : n ≠ 2 ^ 24 - 1 := by
      rintro rfl
      have htie := h.even (le_antisymm h.near ?_)
      · omega
      · rw [le_abs]
        left
        push_cast
        linarith
    omega
  · have := h.le_significand
    omega

/-- No other multiple of the quantum is nearer to y, and at a tie n is even. -/
theorem nearest_of_dvd (h : RoundsTo y k n) {z : Int} (hz : (2 ^ k : Int) ∣ z) :
    |y - n * 2 ^ k| ≤ |y - z| ∧ (|y - n * 2 ^ k| = |y - z| → (z : Rat) ≠ n * 2 ^ k → n % 2 = 0) := by
  obtain ⟨j, rfl⟩ := hz
  by_cases hj : j = n
  · subst hj
    have hz : (((2 ^ k * (n : Int) : Int)) : Rat) = n * 2 ^ k := by push_cast; ring
    rw [hz]
    exact ⟨le_refl _, fun _ hne => absurd rfl hne⟩
  · have hstep : (2 : Rat) ^ k ≤ |n * 2 ^ k - ((2 ^ k * j : Int) : Rat)| := by
      have h1 : (1 : Rat) ≤ |(n : Rat) - j| := by exact_mod_cast Int.one_le_abs (sub_ne_zero.mpr (Ne.symm hj))
      rw [show (n * 2 ^ k - ((2 ^ k * j : Int) : Rat)) = 2 ^ k * (n - j) by push_cast; ring, abs_mul,
        abs_of_pos (show (0 : Rat) < 2 ^ k by positivity)]
      exact le_mul_of_one_le_right (by positivity) h1
    have htriangle := abs_sub_le (n * 2 ^ k : Rat) y ((2 ^ k * j : Int) : Rat)
    rw [abs_sub_comm (n * 2 ^ k : Rat) y] at htriangle
    have hnear := h.near
    exact ⟨by linarith, fun htie _ => h.even (by linarith)⟩

/-- Nothing below the binade is as near to y as its nearest multiple of the quantum. -/
theorem nearest_of_lt (h : RoundsTo y k n) (hk : k ≠ 0) {z : Int} (hz : z < 2 ^ (k + 23)) :
    |y - n * 2 ^ k| < |y - z| := by
  have hlower := h.lower.resolve_left hk
  have hz' : (z : Rat) < 2 ^ (k + 23) := by exact_mod_cast hz
  calc |y - n * 2 ^ k| ≤ |y - ((2 ^ (k + 23) : Int) : Rat)| := (h.nearest_of_dvd (pow_dvd_pow 2 (by omega))).1
    _ = y - 2 ^ (k + 23) := by push_cast; exact abs_of_nonneg (by linarith)
    _ < y - z := by linarith
    _ ≤ |y - z| := le_abs_self _

/-- No word is nearer to y, and at a tie n is even. -/
theorem nearest_signedQuanta (h : RoundsTo y k n) (v : F32) {z : Int} (hz : z = signedQuanta v ∨ z = -signedQuanta v) :
    |y - n * 2 ^ k| ≤ |y - z| ∧ (|y - n * 2 ^ k| = |y - z| → (z : Rat) ≠ n * 2 ^ k → n % 2 = 0) := by
  have hcases : (2 ^ k : Int) ∣ z ∨ z < 2 ^ (k + 23) := by
    have habs : z = quanta (magnitudeBits v) ∨ z = -(quanta (magnitudeBits v) : Int) := by
      rw [signedQuanta] at hz
      split at hz <;> omega
    have hpos : (0 : Int) < 2 ^ (k + 23) := by positivity
    rcases dvd_quanta_or_quanta_lt k (magnitudeBits v) with hdvd | hlt
    · have hdvd' : (2 ^ k : Int) ∣ quanta (magnitudeBits v) := by exact_mod_cast hdvd
      left
      rcases habs with rfl | rfl
      · exact hdvd'
      · exact hdvd'.neg_right
    · have hlt' : (quanta (magnitudeBits v) : Int) < 2 ^ (k + 23) := by exact_mod_cast hlt
      right
      omega
  rcases hcases with hdvd | hlt
  · exact h.nearest_of_dvd hdvd
  · rcases Nat.eq_zero_or_pos k with rfl | hk
    · exact h.nearest_of_dvd (by simp)
    · have := h.nearest_of_lt hk.ne' hlt
      exact ⟨this.le, fun htie => absurd htie this.ne⟩

end RoundsTo

/-- The sign of a rational, -1 or 1, as a factor. -/
def signFactor (q : Rat) : Rat := if q < 0 then -1 else 1

theorem signFactor_mul_abs (q : Rat) : signFactor q * |q| = q := by
  rw [signFactor]
  split
  · rw [abs_of_neg ‹_›, neg_one_mul, neg_neg]
  · rw [abs_of_nonneg (not_lt.mp ‹_›), one_mul]

theorem signFactor_cases (q : Rat) : signFactor q = -1 ∨ signFactor q = 1 := by
  rw [signFactor]
  split
  · exact .inl rfl
  · exact .inr rfl

theorem roundMagnitude_le (a d : Nat) : roundMagnitude a d ≤ 255 * 2 ^ 23 := Nat.min_le_right _ _

/-- The sign of the word is the sign of q, also when q is rounded to a zero (R17). -/
theorem msb_rnd32 (q : Rat) : (rnd32 q).msb = decide (q < 0) := by
  have hle := roundMagnitude_le q.num.natAbs q.den
  simp only [rnd32, BitVec.msb_eq_decide, BitVec.toNat_ofNat, Rat.num_neg, decide_eq_decide]
  by_cases hq : q < 0
  · simp only [hq, if_true, iff_true]
    omega
  · simp only [hq, if_false, iff_false]
    omega

theorem magnitudeBits_rnd32 (q : Rat) : magnitudeBits (rnd32 q) = roundMagnitude q.num.natAbs q.den := by
  have hle := roundMagnitude_le q.num.natAbs q.den
  simp only [rnd32, magnitudeBits, BitVec.toNat_ofNat]
  split <;> omega

/-- The bits of the rounded word: |q| in quanta rounded in its binade, or an infinity. -/
theorem magnitudeBits_rnd32_roundsTo (q : Rat) :
    ∃ k n, RoundsTo (|q| * 2 ^ 149) k n ∧ magnitudeBits (rnd32 q) = min (k * 2 ^ 23 + n) (255 * 2 ^ 23) := by
  rw [magnitudeBits_rnd32]
  have habs : ((q.num.natAbs : Nat) : Rat) / q.den = |q| := by
    rw [Nat.cast_natAbs, Int.cast_abs]
    conv_rhs => rw [← Rat.num_div_den q, abs_div, Nat.abs_cast]
  rw [← habs]
  exact roundMagnitude_roundsTo _ q.den_pos

/-- The bound (2 - 2^-24) × 2^127 from which rnd32 gives an infinity (R17). -/
def overflowBound : Rat := (2 - 1 / 2 ^ 24) * 2 ^ 127

theorem overflowBound_quanta : overflowBound * 2 ^ 149 = (2 ^ 25 - 1) * 2 ^ 252 := by
  norm_num [overflowBound]

theorem magnitudeBits_rnd32_of_le_abs {q : Rat} (hq : overflowBound ≤ |q|) :
    magnitudeBits (rnd32 q) = 255 * 2 ^ 23 := by
  obtain ⟨k, n, h, hbits⟩ := magnitudeBits_rnd32_roundsTo q
  rw [hbits]
  refine min_eq_right (h.le_bits ?_)
  rw [← overflowBound_quanta]
  exact mul_le_mul_of_nonneg_right hq (by positivity)

/-- Below the overflow bound the rounded word is finite and its value is the rounded number of quanta, with the sign
of q. -/
theorem rnd32_roundsTo {q : Rat} (hq : |q| < overflowBound) :
    ∃ k n, RoundsTo (|q| * 2 ^ 149) k n ∧ f32Finite (rnd32 q) = true ∧ magnitudeBits (rnd32 q) = k * 2 ^ 23 + n ∧
      val (rnd32 q) = signFactor q * (n * 2 ^ k / 2 ^ 149) := by
  obtain ⟨k, n, h, hbits⟩ := magnitudeBits_rnd32_roundsTo q
  have hlt : k * 2 ^ 23 + n < 255 * 2 ^ 23 := by
    refine h.bits_lt ?_
    rw [← overflowBound_quanta]
    exact mul_lt_mul_of_pos_right hq (by positivity)
  rw [min_eq_left hlt.le] at hbits
  have hfin : f32Finite (rnd32 q) = true := (f32Finite_iff _).mpr (hbits ▸ hlt)
  refine ⟨k, n, h, hfin, hbits, ?_⟩
  rw [val_eq_signedQuanta hfin, signedQuanta, msb_rnd32, hbits, h.quanta_eq, signFactor]
  simp only [decide_eq_true_eq]
  split <;> push_cast <;> ring

/-- A distance to q in quanta, with the sign of q taken out. -/
theorem abs_sub_signFactor_mul (q x : Rat) : |q - signFactor q * (x / 2 ^ 149)| = |(|q| * 2 ^ 149) - x| / 2 ^ 149 := by
  have hpos : (0 : Rat) < 2 ^ 149 := by positivity
  have hsign : |signFactor q| = 1 := by rcases signFactor_cases q with hs | hs <;> rw [hs] <;> norm_num
  calc |q - signFactor q * (x / 2 ^ 149)|
      = |signFactor q * (|q| - x / 2 ^ 149)| := by rw [mul_sub, signFactor_mul_abs]
    _ = |(|q| * 2 ^ 149 - x) / 2 ^ 149| := by
      rw [abs_mul, hsign, one_mul, sub_div, mul_div_cancel_right₀ _ hpos.ne']
    _ = |(|q| * 2 ^ 149) - x| / 2 ^ 149 := by rw [abs_div, abs_of_pos hpos]

/-- No finite word is nearer to q than the rounded word, and when another value is equally near the rounded word has an
even last bit (R17). -/
theorem rnd32_nearest {q : Rat} (hq : |q| < overflowBound) {v : F32} (hv : f32Finite v = true) :
    |q - val (rnd32 q)| ≤ |q - val v| ∧
    (|q - val (rnd32 q)| = |q - val v| → val v ≠ val (rnd32 q) → (rnd32 q).getLsbD 0 = false) := by
  obtain ⟨k, n, h, -, hbits, hval⟩ := rnd32_roundsTo hq
  have hpos : (0 : Rat) < 2 ^ 149 := by positivity
  obtain ⟨z, hz, hvz⟩ : ∃ z : Int, (z = signedQuanta v ∨ z = -signedQuanta v) ∧
      val v = signFactor q * (z / 2 ^ 149) := by
    rw [val_eq_signedQuanta hv]
    rcases signFactor_cases q with hs | hs <;> rw [hs]
    · exact ⟨-signedQuanta v, .inr rfl, by push_cast; ring⟩
    · exact ⟨signedQuanta v, .inl rfl, (one_mul _).symm⟩
  obtain ⟨hnear, htie⟩ := h.nearest_signedQuanta v hz
  rw [hval, hvz, abs_sub_signFactor_mul, abs_sub_signFactor_mul]
  refine ⟨(div_le_div_iff_of_pos_right hpos).mpr hnear, fun heq hne => ?_⟩
  have hn : n % 2 = 0 := htie ((div_left_inj' hpos.ne').mp heq) fun hzn => hne (by rw [hzn])
  rw [BitVec.getLsbD, Nat.testBit_zero, decide_eq_false_iff_not]
  rw [magnitudeBits] at hbits
  omega


/-- The rounded word is an infinity from the overflow bound on (R17). -/
theorem rnd32_of_overflowBound_le {q : Rat} (hq : overflowBound ≤ q) : rnd32 q = plusInf := by
  have hbound : (0 : Rat) < overflowBound := by norm_num [overflowBound]
  refine eq_of_msb_of_magnitudeBits ?_ ?_
  · rw [msb_rnd32, decide_eq_false (by linarith)]
    rfl
  · rw [magnitudeBits_rnd32_of_le_abs (hq.trans (le_abs_self q))]
    rfl

theorem rnd32_of_le_neg_overflowBound {q : Rat} (hq : q ≤ -overflowBound) : rnd32 q = minusInf := by
  have hbound : (0 : Rat) < overflowBound := by norm_num [overflowBound]
  refine eq_of_msb_of_magnitudeBits ?_ ?_
  · rw [msb_rnd32, decide_eq_true (by linarith)]
    rfl
  · rw [magnitudeBits_rnd32_of_le_abs (by rw [abs_of_neg (by linarith)]; linarith)]
    rfl

theorem f32Finite_rnd32 {q : Rat} (hq : |q| < overflowBound) : f32Finite (rnd32 q) = true := by
  obtain ⟨-, -, -, hfin, -⟩ := rnd32_roundsTo hq
  exact hfin

theorem abs_val {w : F32} (hw : f32Finite w = true) : |val w| = quanta (magnitudeBits w) / 2 ^ 149 := by
  rw [val_eq_signedQuanta hw, abs_div, abs_of_pos (show (0 : Rat) < 2 ^ 149 by positivity), signedQuanta]
  split
  · rw [Int.cast_neg, abs_neg, Int.cast_natCast, Nat.abs_cast]
  · rw [Int.cast_natCast, Nat.abs_cast]

/-- A finite value lies below the overflow bound. -/
theorem abs_val_lt_overflowBound {w : F32} (hw : f32Finite w = true) : |val w| < overflowBound := by
  have hbits := (f32Finite_iff w).mp hw
  have hle : quanta (magnitudeBits w) ≤ (2 ^ 24 - 1) * 2 ^ 253 := by
    rw [← quanta_binade (k := 253) (n := 2 ^ 24 - 1) (by omega) (by omega)]
    exact quanta_strictMono.monotone (by omega)
  rw [abs_val hw, div_lt_iff₀ (by positivity), overflowBound_quanta]
  calc (quanta (magnitudeBits w) : Rat) ≤ ((2 ^ 24 - 1) * 2 ^ 253 : Nat) := Nat.cast_le.mpr hle
    _ < (2 ^ 25 - 1) * 2 ^ 252 := by norm_num

/-- `rnd32` gives back a finite word with a nonzero value from its value (R17). -/
theorem rnd32_val {w : F32} (hw : f32Finite w = true) (h0 : val w ≠ 0) : rnd32 (val w) = w := by
  have hbound := abs_val_lt_overflowBound hw
  have hzero : |val w - val (rnd32 (val w))| ≤ 0 := by simpa using (rnd32_nearest hbound hw).1
  exact eq_of_val_eq (f32Finite_rnd32 hbound) hw (sub_eq_zero.mp (abs_nonpos_iff.mp hzero)).symm h0

/-- Settles O20: below the overflow bound by the rounding in the binade of |q|. -/
theorem rnd32Nearest : Obligations.Rnd32Nearest := by
  intro q limit
  have hlimit : limit = overflowBound := rfl
  rw [hlimit]
  refine ⟨?_, rnd32_of_overflowBound_le, rnd32_of_le_neg_overflowBound, fun _ hq => ⟨f32Finite_rnd32 hq, ?_, ?_⟩⟩
  · rintro rfl
    exact rnd32_zero
  · rw [← msb_rnd32, BitVec.msb_eq_getLsbD_last]
  · exact fun v hv => rnd32_nearest hq hv

end Sys2Proof.Machine
end

section
/-! PROOFS. The values of words and their order (R16), and the round trip of `rnd32` (R17). -/

namespace Sys2Proof.Machine

variable {w : F32}

theorem f32Finite_of_exponent_ne (h : f32Exponent w ≠ 255) : f32Finite w = true := bne_iff_ne.mpr h

theorem f32Finite_of_exponent_eq (h : f32Exponent w = 255) : f32Finite w = false := by
  rw [f32Finite, h]
  rfl

theorem f32Value_of_finite (h : f32Finite w = true) : f32Value w = .finite (val w) := if_pos h

/-- The sign of a finite word as a factor of its value. -/
theorem val_eq_sign_mul (h : f32Finite w = true) : val w = (if w.getLsbD 31 then -1 else 1) * f32Magnitude w := by
  rw [val, if_pos h, f32Sign, BitVec.msb_eq_getLsbD_last]
  split
  · rw [neg_one_mul]
  · rw [one_mul]

theorem f32Magnitude_normal (h : 1 ≤ f32Exponent w) :
    f32Magnitude w = (2 ^ 23 + f32Fraction w) * (2 : Rat) ^ ((f32Exponent w : Int) - 150) := by
  rw [f32Magnitude, f32Significand, if_neg (by omega), max_eq_left h, zpow_sub₀ two_ne_zero, zpow_natCast]
  push_cast
  rw [mul_div_assoc]
  rfl

theorem f32Magnitude_subnormal (h : f32Exponent w = 0) :
    f32Magnitude w = f32Fraction w * (2 : Rat) ^ (-149 : Int) := by
  rw [f32Magnitude, f32Significand, if_pos h, h, max_eq_right zero_le_one, mul_comm, zpow_neg]
  push_cast
  norm_num
  ring

theorem f32Value_of_infinite (he : f32Exponent w = 255) (hf : f32Fraction w = 0) :
    f32Value w = if w.getLsbD 31 then .negInf else .posInf := by
  rw [f32Value, f32Finite_of_exponent_eq he, hf, f32Sign, BitVec.msb_eq_getLsbD_last]
  rfl

theorem f32Value_of_nan (he : f32Exponent w = 255) (hf : f32Fraction w ≠ 0) : f32Value w = .nan := by
  rw [f32Value, f32Finite_of_exponent_eq he, if_neg Bool.false_ne_true, if_pos (bne_iff_ne.mpr hf)]

@[simp] theorem f32Value_plusInf : f32Value 0x7F800000#32 = .posInf := by decide +kernel
@[simp] theorem f32Value_minusInf : f32Value 0xFF800000#32 = .negInf := by decide +kernel

/-- An infinity lies beyond every finite value (R16). -/
theorem valueLt_finite_infinite (q : Rat) :
    valueLt (.finite q) .posInf = true ∧ valueLt .posInf (.finite q) = false ∧
    valueLt .negInf (.finite q) = true ∧ valueLt (.finite q) .negInf = false := ⟨rfl, rfl, rfl, rfl⟩

theorem valueLt_nan_left (a : F32Value) : valueLt .nan a = false := by cases a <;> rfl

theorem valueLt_nan_right (a : F32Value) : valueLt a .nan = false := by cases a <;> rfl

/-- Settles O21: the value by the exponent field, the order by the kinds of values, and the round trip because no
word is nearer to a value than the word itself. -/
theorem rnd32OfVal : Obligations.Rnd32OfVal := by
  refine ⟨fun w => ⟨fun h1 h254 => ?_, fun h0 => ?_, f32Value_of_infinite, f32Value_of_nan⟩, fun a b q r ha hb => ?_,
    fun a q ha => ?_, fun a b hnan => ?_, fun w hw => ?_⟩
  · have hfin : f32Finite w = true := f32Finite_of_exponent_ne (Nat.ne_of_lt (Nat.lt_succ_of_le h254))
    refine ⟨f32Value_of_finite hfin, ?_⟩
    rw [val_eq_sign_mul hfin, f32Magnitude_normal h1, ← mul_assoc]
    rfl
  · have hfin : f32Finite w = true := f32Finite_of_exponent_ne (by rw [f32Exponent, h0]; decide)
    refine ⟨f32Value_of_finite hfin, ?_⟩
    rw [val_eq_sign_mul hfin, f32Magnitude_subnormal h0, ← mul_assoc]
    rfl
  · simp only [f32Lt, ha, hb, valueLt, decide_eq_true_eq]
  · rw [f32Lt, f32Lt, f32Lt, f32Lt, ha, f32Value_plusInf, f32Value_minusInf]
    exact valueLt_finite_infinite q
  · rw [f32Lt]
    rcases hnan with h | h <;> rw [h]
    · exact valueLt_nan_left _
    · exact valueLt_nan_right _
  · split
    · rename_i h0
      rw [h0]
      exact rnd32_zero
    · exact rnd32_val hw ‹_›

end Sys2Proof.Machine
end

section
/-! PROOFS. The conversions of rationals to integers (R19, R155, R222). -/

namespace Sys2Proof.Machine

theorem roundHalfAway_eq (q : Rat) : roundHalfAway q = ⌊q + 1 / 2⌋₊ := by
  rw [roundHalfAway, Rat.floor_def, ← Rat.floor_def', Int.floor_toNat]

/-- The clamp of a count to 1..2^32-1, as the rules write it. -/
theorem clampNat_one_maxU32 (x : Nat) : clampNat x 1 maxU32 = max 1 (min x (2 ^ 32 - 1)) := by
  rcases clampNat_cases x 1 maxU32 with ⟨hx, h⟩ | ⟨hx, hx', h⟩ | ⟨hx, hx', h⟩ <;> rw [h] <;> rw [maxU32] at * <;> omega

theorem periodOf_plusInf (p : Params) : periodOf p plusInf = 1 := if_pos rfl

theorem ne_plusInf_of_finite {w : F32} (h : f32Finite w = true) : w ≠ plusInf := by
  rintro rfl
  exact absurd h (by decide)

theorem periodOf_finite (p : Params) {f : F32} (h : f32Finite f = true) :
    periodOf p f = max 1 (min ⌊(p.sampleRate : Rat) / val f + 1 / 2⌋₊ (2 ^ 32 - 1)) := by
  rw [periodOf, if_neg (ne_plusInf_of_finite h), clampNat_one_maxU32, roundHalfAway_eq]

theorem segLen_eq (p : Params) (t : F32) :
    segLen p t = max 1 (min ⌊val t * (p.sampleRate : Rat) + 1 / 2⌋₊ (2 ^ 32 - 1)) := by
  rw [segLen, clampNat_one_maxU32, roundHalfAway_eq]

/-- Settles O23: each conversion is a rounded rational, clamped to 1..2^32-1. -/
theorem integerConversions : Obligations.IntegerConversions :=
  ⟨fun q _ => roundHalfAway_eq q, periodOf_plusInf, fun p _ hf => periodOf_finite p (finiteWith_iff.mp hf).1,
    fun p t _ => segLen_eq p t⟩

end Sys2Proof.Machine
end

section
/-! PROOFS. The filter step (R20, R259 to R261). -/

namespace Sys2Proof.Machine

theorem clampF32_of_negInf {x lo hi : F32} (hlo : f32Finite lo = true) (hx : f32Value x = .negInf) :
    clampF32 x lo hi = lo := by
  rw [clampF32, f32Lt, hx, f32Value_of_finite hlo]
  rfl

theorem clampF32_of_posInf {x lo hi : F32} (hlo : f32Finite lo = true) (hhi : f32Finite hi = true)
    (hx : f32Value x = .posInf) : clampF32 x lo hi = hi := by
  rw [clampF32, f32Lt, f32Lt, hx, f32Value_of_finite hlo, f32Value_of_finite hhi]
  rfl

theorem clampF32_of_nan {x : F32} (hx : f32Value x = .nan) (lo hi : F32) : clampF32 x lo hi = x := by
  rw [clampF32, f32Lt, f32Lt, hx, valueLt_nan_left, valueLt_nan_right]
  rfl

theorem clampF32_of_finite {x lo hi : F32} (hlo : f32Finite lo = true) (hhi : f32Finite hi = true)
    (hx : f32Finite x = true) :
    clampF32 x lo hi = if val x < val lo then lo else if val hi < val x then hi else x := by
  rw [clampF32, f32Lt_finite hx hlo, f32Lt_finite hhi hx]
  simp only [decide_eq_true_eq]

/-- The filter step with the modulated cutoff and the recurrence written out (R259 to R261). -/
theorem vcfStep_eq (p : Params) (c : Vcf) (x l e : F32) :
    let g := val e * (1 - val c.modvol * (1 - val l) / 2)
    let k := biquadOf p (clampF32 (rnd32 (val c.cutoff * g)) p.fcMin p.fcMax) c.resonance
    let y := clampF32 (rnd32 (val k.b0 * val x + val k.b1 * val c.x1 + val k.b2 * val c.x2 - val k.a1 * val c.y1
      - val k.a2 * val c.y2)) minusOne plusOne
    vcfStep p c x l e = { c with x2 := c.x1, x1 := x, y2 := c.y1, y1 := y, out := y } := rfl

/-- An LFO sample in [-1, 1] leaves a gain between 1 - m and 1 (R259). -/
theorem lfoGain_mem {m l : F32} (hm0 : 0 ≤ val m) (hm1 : val m ≤ 1) (hl0 : -1 ≤ val l) (hl1 : val l ≤ 1) :
    0 ≤ lfoGain m l ∧ lfoGain m l ≤ 1 := by
  have hlow : 0 ≤ val m * (1 - val l) := mul_nonneg hm0 (by linarith)
  have hhigh : val m * (1 - val l) ≤ 1 * 2 := mul_le_mul hm1 (by linarith) (by linarith) zero_le_one
  rw [lfoGain]
  constructor <;> linarith

/-- Settles O34: the clamp by the kind of value of its argument, and the gain as a product of two factors in [0, 1]. -/
theorem vcfStepRule : Obligations.VcfStepRule := by
  refine ⟨fun x lo hi hlo hhi => ⟨clampF32_of_negInf hlo, clampF32_of_posInf hlo hhi,
    fun hx => clampF32_of_nan hx lo hi, clampF32_of_finite hlo hhi⟩, fun _ _ _ => rfl, fun p c x l e => ⟨vcfStep_eq p c x l e, fun he hm hl => ?_⟩⟩
  obtain ⟨-, he0, he1⟩ := finiteWith_iff.mp he
  obtain ⟨-, hm0, hm1⟩ := finiteWith_iff.mp hm
  obtain ⟨-, hl0, hl1⟩ := finiteWith_iff.mp hl
  obtain ⟨hg0, hg1⟩ := lfoGain_mem hm0 hm1 hl0 hl1
  exact ⟨mul_nonneg he0 hg0, mul_le_one₀ he1 hg0 hg1⟩

end Sys2Proof.Machine
end

section
/-! PROOFS. `rnd32` keeps order and is accurate to 2^-24 in the normal range: what the default parameters rest on. -/

namespace Sys2Proof.Machine

/-- `rnd32` keeps the order of values. -/
theorem val_rnd32_mono {q r : Rat} (hq : |q| < overflowBound) (hr : |r| < overflowBound) (h : q ≤ r) :
    val (rnd32 q) ≤ val (rnd32 r) := by
  rcases h.eq_or_lt with rfl | hlt
  · exact le_refl _
  · by_contra hcon
    have h1 := (rnd32_nearest hq (f32Finite_rnd32 hr)).1
    have h2 := (rnd32_nearest hr (f32Finite_rnd32 hq)).1
    rw [← sq_le_sq] at h1 h2
    nlinarith

/-- A value bounds the rounded words of the rationals beyond it. -/
theorem val_le_val_rnd32 {q : Rat} {v : F32} (hv : f32Finite v = true) (hq : |q| < overflowBound) (h : val v ≤ q) :
    val v ≤ val (rnd32 q) := by
  by_contra hcon
  have hnear := (rnd32_nearest hq hv).1
  rw [abs_of_nonneg (by linarith), abs_of_nonneg (by linarith)] at hnear
  linarith

/-- From the smallest normal magnitude on, the rounding error is at most 2^-24 of the magnitude. -/
theorem abs_sub_val_rnd32_le {q : Rat} (hq : |q| < overflowBound) (hnormal : 1 / 2 ^ 126 ≤ |q|) :
    |q - val (rnd32 q)| ≤ |q| / 2 ^ 24 := by
  obtain ⟨k, n, h, -, -, hval⟩ := rnd32_roundsTo hq
  have hlower : (2 : Rat) ^ (k + 23) ≤ |q| * 2 ^ 149 := by
    refine h.lower.elim (fun hk => ?_) id
    rw [hk, zero_add]
    linarith
  rw [hval, abs_sub_signFactor_mul, div_le_iff₀ (by positivity)]
  rw [pow_add] at hlower
  have := h.near
  linarith

end Sys2Proof.Machine
end

section
/-! PROOFS. The default EXP2 meets R24: its polynomial rises on [-1/2, 1/2] and `rnd32` keeps order. -/

namespace Sys2Proof.Machine

/-- One Horner step of the exponential series at z of at most 0.35 keeps an accumulator in [23/50, 77/50]. -/
theorem expHorner_step_mem {z a : Rat} (hz : |z| ≤ 7 / 20) (ha : 23 / 50 ≤ a) (ha' : a ≤ 77 / 50) {k : Rat}
    (hk : 1 ≤ k) : 23 / 50 ≤ 1 + z / k * a ∧ 1 + z / k * a ≤ 77 / 50 := by
  have hbound : |z / k * a| ≤ 7 / 20 * (77 / 50) := by
    rw [abs_mul, abs_div, abs_of_pos (show 0 < k by linarith), abs_of_nonneg (show 0 ≤ a by linarith)]
    exact mul_le_mul ((div_le_self (abs_nonneg z) hk).trans hz) ha' (by linarith) (by norm_num)
  obtain ⟨h1, h2⟩ := abs_le.mp hbound
  constructor <;> linarith

/-- One Horner step grows with its argument, and from the second one (k at least 2) no faster than it. -/
theorem expHorner_step_mono {y z a b : Rat} (hy : |y| ≤ 7 / 20) (hyz : y ≤ z) (hb : 23 / 50 ≤ b) (hb' : b ≤ 77 / 50)
    (hab : a ≤ b) (hab' : b - a ≤ z - y) {k : Rat} (hk : 1 ≤ k) :
    1 + y / k * a ≤ 1 + z / k * b ∧ (2 ≤ k → (1 + z / k * b) - (1 + y / k * a) ≤ z - y) := by
  have hk0 : 0 < k := by linarith
  obtain ⟨hy1, hy2⟩ := abs_le.mp hy
  have hdiff : (1 + z / k * b) - (1 + y / k * a) = ((z - y) * b + y * (b - a)) / k := by
    field_simp
    ring
  have hlow : 0 ≤ (z - y) * b + y * (b - a) := by nlinarith
  have hhigh : (z - y) * b + y * (b - a) ≤ (z - y) * 2 := by nlinarith
  constructor
  · rw [← sub_nonneg, hdiff]
    exact div_nonneg hlow hk0.le
  · intro hk2
    rw [hdiff, div_le_iff₀ hk0]
    exact hhigh.trans (mul_le_mul_of_nonneg_left hk2 (by linarith))

/-- The exponential series grows with its argument in [-0.35, 0.35]. -/
theorem expHorner_mono (n : Nat) {y z a b : Rat} (hy : |y| ≤ 7 / 20) (hz : |z| ≤ 7 / 20) (hyz : y ≤ z)
    (ha : 23 / 50 ≤ a) (ha' : a ≤ 77 / 50) (hb : 23 / 50 ≤ b) (hb' : b ≤ 77 / 50) (hab : a ≤ b) (hab' : b - a ≤ z - y) :
    expHorner n y a ≤ expHorner n z b := by
  induction n generalizing a b with
  | zero => exact hab
  | succ n ih =>
    have hk : (1 : Rat) ≤ ((n + 1 : Nat) : Rat) := by exact_mod_cast Nat.succ_pos n
    obtain ⟨hmono, hrate⟩ := expHorner_step_mono hy hyz hb hb' hab hab' hk
    obtain ⟨ha1, ha2⟩ := expHorner_step_mem hy ha ha' hk
    obtain ⟨hb1, hb2⟩ := expHorner_step_mem hz hb hb' hk
    rcases Nat.eq_zero_or_pos n with rfl | hn
    · exact hmono
    · exact ih ha1 ha2 hb1 hb2 hmono (hrate (by exact_mod_cast Nat.succ_le_succ hn))

theorem abs_mul_ln2Approx_le {x : Rat} (h1 : -1 / 2 ≤ x) (h2 : x ≤ 1 / 2) : |x * ln2Approx| ≤ 7 / 20 := by
  have hln0 : 0 ≤ ln2Approx := by decide +kernel
  have hln1 : ln2Approx ≤ 7 / 10 := by decide +kernel
  rw [abs_mul, abs_of_nonneg hln0]
  calc |x| * ln2Approx ≤ 1 / 2 * (7 / 10) := mul_le_mul (abs_le.mpr ⟨by linarith, h2⟩) hln1 hln0 (by norm_num)
    _ = 7 / 20 := by norm_num

theorem exp2Rational_mono {x y : Rat} (hx : -1 / 2 ≤ x) (hxy : x ≤ y) (hy : y ≤ 1 / 2) :
    exp2Rational x ≤ exp2Rational y :=
  expHorner_mono 46 (abs_mul_ln2Approx_le hx (hxy.trans hy)) (abs_mul_ln2Approx_le (hx.trans hxy) hy)
    (mul_le_mul_of_nonneg_right hxy (by decide +kernel)) (by norm_num) (by norm_num) (by norm_num) (by norm_num)
    (le_refl _) (by
      rw [sub_self, sub_nonneg]
      exact mul_le_mul_of_nonneg_right hxy (by decide +kernel))

/-- The bounds of the default EXP2 at the ends of its range. -/
theorem exp2Rational_mem {x : Rat} (h1 : -1 / 2 ≤ x) (h2 : x ≤ 1 / 2) :
    1 / 2 ≤ exp2Rational x ∧ exp2Rational x ≤ 2 := by
  have hlow : 1 / 2 ≤ exp2Rational (-1 / 2) := by decide +kernel
  have hhigh : exp2Rational (1 / 2) ≤ 2 := by decide +kernel
  exact ⟨hlow.trans (exp2Rational_mono (le_refl _) h1 h2), (exp2Rational_mono h1 h2 (le_refl _)).trans hhigh⟩

theorem abs_exp2Rational_lt {x : Rat} (h1 : -1 / 2 ≤ x) (h2 : x ≤ 1 / 2) : |exp2Rational x| < overflowBound := by
  obtain ⟨hlow, hhigh⟩ := exp2Rational_mem h1 h2
  rw [abs_of_nonneg (by linarith)]
  exact hhigh.trans_lt (by norm_num [overflowBound])

/-- The default EXP2 keeps the order of values. -/
theorem val_exp2Default_mono {x y : Rat} (hx : -1 / 2 ≤ x) (hxy : x ≤ y) (hy : y ≤ 1 / 2) :
    val (rnd32 (exp2Rational x)) ≤ val (rnd32 (exp2Rational y)) :=
  val_rnd32_mono (abs_exp2Rational_lt hx (hxy.trans hy)) (abs_exp2Rational_lt (hx.trans hxy) hy)
    (exp2Rational_mono hx hxy hy)

theorem rnd32_exp2Rational_neg_half : rnd32 (exp2Rational (-1 / 2)) = 0x3F3504F3#32 := by decide +kernel
theorem rnd32_exp2Rational_half : rnd32 (exp2Rational (1 / 2)) = 0x3FB504F3#32 := by decide +kernel

/-- The default EXP2 meets its requirement (R24). -/
theorem exp2Legal_of_correctlyRounded {p : Params} (hp : p.exp2 = .correctlyRounded) : Exp2Legal p := by
  have hexp : ∀ x, exp2Of p x = rnd32 (exp2Rational (val x)) := fun x => by
    rw [exp2Of, hp]
    rfl
  simp only [Exp2Legal, hexp, f32Within_iff, f32FinitePositive_iff]
  refine ⟨by decide +kernel, by decide +kernel, fun x ⟨_, hx1, hx2⟩ => ?_, fun x y ⟨_, hx1, _⟩ ⟨_, _, hy2⟩ hxy =>
    val_exp2Default_mono hx1 hxy hy2⟩
  have hlow := val_exp2Default_mono (le_refl _) hx1 hx2
  have hhigh := val_exp2Default_mono hx1 hx2 (le_refl _)
  rw [rnd32_exp2Rational_neg_half] at hlow
  rw [rnd32_exp2Rational_half] at hhigh
  have hpos : 0 < val 0x3F3504F3#32 := by decide +kernel
  exact ⟨⟨f32Finite_rnd32 (abs_exp2Rational_lt hx1 hx2), hpos.trans_le hlow⟩, hlow, hhigh⟩

end Sys2Proof.Machine
end

section
/-! PROOFS. The default BIQUAD_COEFFS is finite at every legal argument (R252, R253). -/

namespace Sys2Proof.Machine

/-- The alternating Horner steps of the sine series stay in [0, 1] while z² is at most 6. -/
theorem sinHorner_mem (n : Nat) {zz acc : Rat} (hz0 : 0 ≤ zz) (hz6 : zz ≤ 6) (h0 : 0 ≤ acc) (h1 : acc ≤ 1) :
    0 ≤ sinHorner n zz acc ∧ sinHorner n zz acc ≤ 1 := by
  induction n generalizing acc with
  | zero => exact ⟨h0, h1⟩
  | succ n ih =>
    have hd : (6 : Rat) ≤ (((2 * (n + 1)) * (2 * (n + 1) + 1) : Nat) : Rat) := by
      exact_mod_cast (show 6 ≤ 2 * (n + 1) * (2 * (n + 1) + 1) by nlinarith)
    have hq0 : 0 ≤ zz / (((2 * (n + 1)) * (2 * (n + 1) + 1) : Nat) : Rat) := div_nonneg hz0 (by linarith)
    have hq1 : zz / (((2 * (n + 1)) * (2 * (n + 1) + 1) : Nat) : Rat) ≤ 1 :=
      div_le_one_of_le₀ (hz6.trans hd) (by linarith)
    exact ih (sub_nonneg.mpr (mul_le_one₀ hq1 h0 h1)) (sub_le_self _ (mul_nonneg hq0 h0))

/-- A crude bound on the sine of at most a quarter turn, with its sign. -/
theorem sinTurns_mem {t : Rat} (h : |t| ≤ 1 / 4) : |sinTurns t| ≤ 8 / 5 ∧ (0 ≤ t → 0 ≤ sinTurns t) := by
  have hpi0 : 0 ≤ piApprox := by decide +kernel
  have hpi1 : piApprox ≤ 16 / 5 := by decide +kernel
  have hz : |2 * piApprox * t| ≤ 8 / 5 := by
    rw [abs_mul, abs_of_nonneg (by linarith)]
    calc 2 * piApprox * |t| ≤ 2 * (16 / 5) * (1 / 4) := mul_le_mul (by linarith) h (abs_nonneg t) (by norm_num)
      _ = 8 / 5 := by norm_num
  have hzz : (2 * piApprox * t) * (2 * piApprox * t) ≤ 6 := by
    obtain ⟨h1, h2⟩ := abs_le.mp hz
    nlinarith
  obtain ⟨hs0, hs1⟩ := sinHorner_mem 33 (mul_self_nonneg _) hzz zero_le_one (le_refl 1)
  constructor
  · rw [sinTurns, abs_mul, abs_of_nonneg hs0]
    calc _ ≤ 8 / 5 * 1 := mul_le_mul hz hs1 hs0 (by norm_num)
      _ = 8 / 5 := mul_one _
  · intro ht
    exact mul_nonneg (mul_nonneg (by linarith) ht) hs0

/-- A small numerator over an a0 of at least 1 is rounded to a finite word. -/
theorem f32Finite_rnd32_div {x a0 : Rat} (hx : |x| ≤ 16) (ha : 1 ≤ a0) : f32Finite (rnd32 (x / a0)) = true := by
  refine f32Finite_rnd32 ?_
  rw [abs_div, abs_of_pos (show 0 < a0 by linarith)]
  exact ((div_le_self (abs_nonneg x) ha).trans hx).trans_lt (by norm_num [overflowBound])

/-- The α of R253 is at least 0 and at most 2, so a0 = 1 + α is at least 1. -/
theorem alpha_mem {sinW r : Rat} (hs0 : 0 ≤ sinW) (hs1 : sinW ≤ 8 / 5) (hr0 : 0 ≤ r) :
    0 ≤ sinW / (2 * (invSqrt2Approx + (10 - invSqrt2Approx) * r)) ∧
    sinW / (2 * (invSqrt2Approx + (10 - invSqrt2Approx) * r)) ≤ 2 := by
  have hinv0 : 1 / 2 ≤ invSqrt2Approx := by decide +kernel
  have hinv1 : invSqrt2Approx ≤ 10 := by decide +kernel
  have hq : 1 ≤ 2 * (invSqrt2Approx + (10 - invSqrt2Approx) * r) := by
    have := mul_nonneg (sub_nonneg.mpr hinv1) hr0
    linarith
  exact ⟨div_nonneg hs0 (by linarith), (div_le_self hs0 hq).trans (by linarith)⟩

/-- The low-pass coefficients are finite for a cutoff up to half the sample rate and a resonance of at least 0: a0 is at
least 1 and every numerator is small. -/
theorem coeffsFinite_rbjLowPass {sampleRate : Nat} {fc r : F32} (hfc0 : 0 ≤ val fc)
    (hfc1 : val fc ≤ (sampleRate : Rat) / 2) (hr0 : 0 ≤ val r) :
    coeffsFinite (rbjLowPassCoeffs sampleRate fc r) = true := by
  have ht0 : 0 ≤ val fc / (sampleRate : Rat) := div_nonneg hfc0 (Nat.cast_nonneg _)
  have ht1 : val fc / (sampleRate : Rat) ≤ 1 / 2 := div_le_of_le_mul₀ (Nat.cast_nonneg _) (by norm_num) (by linarith)
  simp only [rbjLowPassCoeffs, coeffsFinite, Bool.and_eq_true]
  generalize val fc / (sampleRate : Rat) = t at ht0 ht1 ⊢
  have hu : 0 ≤ (if t ≤ 1 / 4 then t else 1 / 2 - t) ∧ (if t ≤ 1 / 4 then t else 1 / 2 - t) ≤ 1 / 4 := by
    split <;> constructor <;> linarith
  generalize (if t ≤ 1 / 4 then t else 1 / 2 - t) = u at hu ⊢
  obtain ⟨hsin1, hsin0⟩ := sinTurns_mem (abs_le.mpr ⟨by linarith [hu.1], hu.2⟩)
  obtain ⟨hcos, -⟩ := sinTurns_mem (abs_le.mpr ⟨by linarith, by linarith⟩ : |1 / 4 - t| ≤ 1 / 4)
  obtain ⟨hhalf, -⟩ := sinTurns_mem (abs_le.mpr ⟨by linarith, by linarith⟩ : |t / 2| ≤ 1 / 4)
  obtain ⟨halpha0, halpha1⟩ := alpha_mem (hsin0 hu.1) ((le_abs_self _).trans hsin1) hr0
  generalize sinTurns u / (2 * (invSqrt2Approx + (10 - invSqrt2Approx) * val r)) = alpha at halpha0 halpha1 ⊢
  have ha0 : 1 ≤ 1 + alpha := by linarith
  have hsq : |sinTurns (t / 2) * sinTurns (t / 2)| ≤ 8 / 5 * (8 / 5) := by
    rw [abs_mul]
    exact mul_le_mul hhalf hhalf (abs_nonneg _) (by norm_num)
  have hb : |2 * (sinTurns (t / 2) * sinTurns (t / 2))| ≤ 16 := by
    rw [abs_mul, abs_two]
    linarith
  have hb2 : |2 * (sinTurns (t / 2) * sinTurns (t / 2)) / 2| ≤ 16 := by
    rw [mul_div_cancel_left₀ _ two_ne_zero]
    linarith
  have ha1 : |-2 * sinTurns (1 / 4 - t)| ≤ 16 := by
    rw [abs_mul, abs_neg, abs_two]
    linarith
  have ha2 : |1 - alpha| ≤ 16 := abs_le.mpr ⟨by linarith, by linarith⟩
  exact ⟨⟨⟨⟨f32Finite_rnd32_div hb2 ha0, f32Finite_rnd32_div hb ha0⟩, f32Finite_rnd32_div hb2 ha0⟩,
    f32Finite_rnd32_div ha1 ha0⟩, f32Finite_rnd32_div ha2 ha0⟩

end Sys2Proof.Machine
end

section
/-! PROOFS. The defaults of the parameters meet their requirements (R8, R24, R86, R90, R252). -/

namespace Sys2Proof.Machine

/-- The default FC_MAX is finite, at least FC_MIN and below half the sample rate, for every rate from 45 up (R8). -/
theorem defaultFcMax_mem {rate : Nat} (h45 : 45 ≤ rate) (hmax : rate ≤ 2 ^ 24) :
    f32Finite (defaultFcMax rate) = true ∧ val hz20 ≤ val (defaultFcMax rate) ∧
    val (defaultFcMax rate) < (rate : Rat) / 2 := by
  have h45' : (45 : Rat) ≤ rate := by exact_mod_cast h45
  have hmax' : (rate : Rat) ≤ 2 ^ 24 := by exact_mod_cast hmax
  have h20 : val hz20 = 20 := by decide +kernel
  have habs : |45 / 100 * (rate : Rat)| = 45 / 100 * rate := abs_of_nonneg (by linarith)
  have hbound : |45 / 100 * (rate : Rat)| < overflowBound := by
    rw [habs]
    exact (show 45 / 100 * (rate : Rat) ≤ 2 ^ 24 by linarith).trans_lt (by norm_num [overflowBound])
  refine ⟨f32Finite_rnd32 hbound, val_le_val_rnd32 (by decide) hbound (by rw [h20]; linarith), ?_⟩
  have herror := abs_sub_val_rnd32_le hbound (by rw [habs]; norm_num; linarith)
  have := (abs_le.mp herror).1
  rw [habs] at this
  rw [defaultFcMax]
  linarith

theorem cutoffBoundsLegal_default {rate : Nat} (h45 : 45 ≤ rate) (hmax : rate ≤ 2 ^ 24) :
    cutoffBoundsLegal (defaultParamsAt rate) = true := by
  obtain ⟨hfin, hmin, hlt⟩ := defaultFcMax_mem h45 hmax
  have h20 : f32FinitePositive hz20 = true := by decide +kernel
  simp only [cutoffBoundsLegal, defaultParamsAt, Bool.and_eq_true]
  exact ⟨⟨⟨h20, hfin⟩, decide_eq_true hmin⟩, decide_eq_true hlt⟩

theorem noiseSeedReset_default (rate v u : Nat) :
    noiseSeedReset (defaultParamsAt rate) v u = BitVec.ofNat 32 (v * 2 ^ 8 ||| (u + 1)) := by
  rw [← Nat.shiftLeft_eq]
  rfl

/-- The default seeds are nonzero: the low byte is the unit code plus 1 (R8). -/
theorem seedsLegal_default (rate : Nat) : seedsLegal (defaultParamsAt rate) = true := by
  simp only [seedsLegal, List.all_eq_true, List.mem_range, noiseSeedReset_default, bne_iff_ne]
  intro v hv u hu h0
  have hlt : v * 2 ^ 8 ||| (u + 1) < 2 ^ 32 := Nat.or_lt_two_pow (by omega) (by omega)
  have hle : u + 1 ≤ v * 2 ^ 8 ||| (u + 1) := Nat.right_le_or
  have h := congrArg BitVec.toNat h0
  rw [BitVec.toNat_ofNat, Nat.mod_eq_of_lt hlt, BitVec.toNat_ofNat] at h
  omega

theorem sineTableLegal_default : sineTableLegal defaultSineTable = true := by decide +kernel
theorem noteTableLegal_default : noteTableLegal defaultNoteTable = true := by decide +kernel

theorem paramsLegal_default {rate : Nat} (h45 : 45 ≤ rate) (hmax : rate ≤ 2 ^ 24) :
    paramsLegal (defaultParamsAt rate) = true := by
  have hexp : exp2AtZero (defaultParamsAt rate) = true := by
    obtain ⟨h1, h2, -⟩ := exp2Legal_of_correctlyRounded (p := defaultParamsAt rate) rfl
    rw [exp2AtZero, h1, h2]
    rfl
  have hrate : (defaultParamsAt rate).sampleRate = rate := rfl
  simp only [paramsLegal, hrate, seedsLegal_default, hexp, cutoffBoundsLegal_default h45 hmax, Bool.and_eq_true,
    decide_eq_true_eq, and_true]
  exact ⟨⟨⟨by omega, hmax⟩, sineTableLegal_default⟩, noteTableLegal_default⟩

/-- The default BIQUAD_COEFFS meets its requirement at the default band (R252). -/
theorem biquadLegal_default {rate : Nat} (h45 : 45 ≤ rate) (hmax : rate ≤ 2 ^ 24) :
    BiquadLegal (defaultParamsAt rate) := by
  intro fc r hfc hr
  obtain ⟨-, -, hlt⟩ := defaultFcMax_mem h45 hmax
  have h20 : (0 : Rat) ≤ val hz20 := by decide +kernel
  obtain ⟨-, hfc0, hfc1⟩ := f32Within_iff.mp hfc
  obtain ⟨-, hr0, -⟩ := f32Within_iff.mp hr
  exact coeffsFinite_rbjLowPass (h20.trans hfc0) (hfc1.trans hlt.le) hr0

theorem defaultFcMax_eq (rate : Nat) : defaultFcMax rate = rnd32 (9 / 20 * (rate : Rat)) := by
  rw [defaultFcMax, show (45 / 100 : Rat) = 9 / 20 by norm_num]

/-- Settles O60: the requirements by the bounds above; the tables and the five rows of R253 by evaluation. -/
theorem defaultParametersLegal : Obligations.DefaultParametersLegal := by
  refine ⟨fun rate h45 hmax =>
      ⟨paramsLegal_default h45 hmax, exp2Legal_of_correctlyRounded rfl, biquadLegal_default h45 hmax⟩,
    fun rate => ⟨rfl, rfl, defaultFcMax_eq rate, rfl, rfl, noiseSeedReset_default rate, ?_, ?_⟩,
    rfl, defaultParams_fcMax, rfl, rfl, ?_, ?_, ?_, ?_, ?_⟩
  · show defaultSineTable = _
    decide +kernel
  · show defaultNoteTable = _
    decide +kernel
  all_goals decide +kernel

end Sys2Proof.Machine
end

section
/-! PROOFS. What a command can do, said once: on APORT it rewrites voice INST and answers, both from the parameters and
that voice; on CPORT it rewrites decoder INST and answers, both from that decoder (R53, R54, R333). -/

namespace Sys2Proof.Machine

/-- The voice or decoder a command reaches, after it: only a legal command without a reserved bit writes. -/
def instanceAfter {β : Type} (reserved : Bool) (rule : β → Reply β) (x : β) : β :=
  if reserved then x
  else
    match rule x with
    | .violation => x
    | .ok x' _ => x'

/-- The response of a command to an accepted unit on its own port; `none` is an INST out of range (R333). -/
def instanceResponse {β : Type} (reserved : Bool) (rule : β → Reply β) : Option β → Response
  | none => ⟨.badInstance, 0#32⟩
  | some x =>
    if reserved then ⟨.reservedBits, 0#32⟩
    else
      match rule x with
      | .violation => ⟨.contractViolation, 0#32⟩
      | .ok _ d => ⟨.ok, d⟩

/-- The state with voice k, where there is one, rewritten and one response added on APORT. -/
def State.voiceUpdated (s : State) (k : Nat) (f : Voice → Voice) (r : Response) : State :=
  { s with voices := s.voices.modify k f, aportOut := s.aportOut ++ [r] }

/-- The state with decoder k, where there is one, rewritten and one response added on CPORT. -/
def State.decoderUpdated (s : State) (k : Nat) (f : Decoder → Decoder) (r : Response) : State :=
  { s with decoders := s.decoders.modify k f, cportOut := s.cportOut ++ [r] }

section Fields
variable (s : State) (k : Nat) (f : Voice → Voice) (g : Decoder → Decoder) (r : Response)

@[simp] theorem State.voiceUpdated_params : (s.voiceUpdated k f r).params = s.params := rfl
@[simp] theorem State.voiceUpdated_voices : (s.voiceUpdated k f r).voices = s.voices.modify k f := rfl
@[simp] theorem State.voiceUpdated_decoders : (s.voiceUpdated k f r).decoders = s.decoders := rfl
@[simp] theorem State.voiceUpdated_inputs : (s.voiceUpdated k f r).inputs = s.inputs := rfl
@[simp] theorem State.voiceUpdated_port : (s.voiceUpdated k f r).port = s.port := rfl
@[simp] theorem State.voiceUpdated_aportOut : (s.voiceUpdated k f r).aportOut = s.aportOut ++ [r] := rfl
@[simp] theorem State.voiceUpdated_cportOut : (s.voiceUpdated k f r).cportOut = s.cportOut := rfl

@[simp] theorem State.decoderUpdated_params : (s.decoderUpdated k g r).params = s.params := rfl
@[simp] theorem State.decoderUpdated_voices : (s.decoderUpdated k g r).voices = s.voices := rfl
@[simp] theorem State.decoderUpdated_decoders : (s.decoderUpdated k g r).decoders = s.decoders.modify k g := rfl
@[simp] theorem State.decoderUpdated_inputs : (s.decoderUpdated k g r).inputs = s.inputs := rfl
@[simp] theorem State.decoderUpdated_port : (s.decoderUpdated k g r).port = s.port := rfl
@[simp] theorem State.decoderUpdated_aportOut : (s.decoderUpdated k g r).aportOut = s.aportOut := rfl
@[simp] theorem State.decoderUpdated_cportOut : (s.decoderUpdated k g r).cportOut = s.cportOut ++ [r] := rfl

@[simp] theorem State.responsesOn_aport : s.responsesOn .aport = s.aportOut := rfl
@[simp] theorem State.responsesOn_cport : s.responsesOn .cport = s.cportOut := rfl

end Fields

/-- An update that keeps the element it reaches keeps the list. -/
theorem modify_eq_self {β : Type} {l : List β} {k : Nat} {f : β → β} (h : ∀ x, l[k]? = some x → f x = x) :
    l.modify k f = l := by
  rw [List.modify_eq_set_getElem?]
  cases hx : l[k]? with
  | none => rfl
  | some x =>
    obtain ⟨hk, rfl⟩ := List.getElem?_eq_some_iff.mp hx
    exact (congrArg (l.set k) (h _ hx)).trans (List.set_getElem_self hk)

section Updates
variable {s : State} {k : Nat}

/-- An update that keeps its voice only answers. -/
theorem State.voiceUpdated_eq_withResponse {f : Voice → Voice} (h : ∀ V, s.voices[k]? = some V → f V = V)
    (r : Response) : s.voiceUpdated k f r = s.withResponse .aport r := by
  rw [State.voiceUpdated, modify_eq_self h]; rfl

theorem State.decoderUpdated_eq_withResponse {f : Decoder → Decoder} (h : ∀ D, s.decoders[k]? = some D → f D = D)
    (r : Response) : s.decoderUpdated k f r = s.withResponse .cport r := by
  rw [State.decoderUpdated, modify_eq_self h]; rfl

theorem State.voiceUpdated_eq_voiceAnswered {c : CommandFields} {V : Voice} (h : s.voices[c.inst.toNat]? = some V)
    (f : Voice → Voice) (st : Status) (d : BitVec 32) :
    s.voiceUpdated c.inst.toNat f ⟨st, d⟩ = s.voiceAnswered c (f V) st d := by
  rw [State.voiceUpdated, List.modify_eq_set_getElem?, h]; rfl

theorem State.decoderUpdated_eq_decoderAnswered {c : CommandFields} {D : Decoder}
    (h : s.decoders[c.inst.toNat]? = some D) (f : Decoder → Decoder) (st : Status) (d : BitVec 32) :
    s.decoderUpdated c.inst.toNat f ⟨st, d⟩ = s.decoderAnswered c (f D) st d := by
  rw [State.decoderUpdated, List.modify_eq_set_getElem?, h]; rfl

end Updates

section Templates
variable {α : Type} {c : CommandFields} {s : State} {select : UnitId → Option α} {a : α}

theorem raise_eq_withResponse (st : Status) (s : State) : raise st s = .next (s.withResponse s.port ⟨st, 0#32⟩) := by
  rw [raise_eq, State.respond_eq_withResponse]

theorem unitPort_eq_aport {u : UnitId} (h : u ≠ .dec) : unitPort u = .aport := by
  cases u with
  | dec => exact absurd rfl h
  | _ => rfl

/-- A voice command on APORT to a unit it accepts is an update of voice INST. -/
theorem voiceCommand_on_aport {u : UnitId} (hu : unitOfCode c.unit = some u) (ha : select u = some a) (hdec : u ≠ .dec)
    (hp : s.port = .aport) (fmt : OperandFormat) (rule : α → Voice → Reply Voice) :
    voiceCommand select fmt c s rule =
      .next (s.voiceUpdated c.inst.toNat (instanceAfter (reservedBitsSet fmt c) (rule a))
        (instanceResponse (reservedBitsSet fmt c) (rule a) s.voices[c.inst.toNat]?)) := by
  cases hV : s.voices[c.inst.toNat]? with
  | none =>
    have hport : s.port = unitPort u := hp.trans (unitPort_eq_aport hdec).symm
    rw [State.voiceUpdated_eq_withResponse (by simp [hV]), ← hp]
    simp only [voiceCommand, hu, ha, hV, if_neg (not_not_intro hport), raise_eq_withResponse, instanceResponse]
  | some V =>
    rw [voiceCommand_of_reached ⟨hu, hdec, hp, hV⟩ ha, State.rejected, State.rejected, hp]
    cases hr : reservedBitsSet fmt c with
    | true => exact congrArg _ (State.voiceUpdated_eq_withResponse (fun _ _ => rfl) _).symm
    | false =>
      cases hrule : rule a V with
      | violation =>
        rw [State.voiceUpdated_eq_withResponse (by simp [hV, instanceAfter, hrule])]
        simp [instanceResponse, hrule]
      | ok V' d =>
        simp [instanceResponse, hrule, State.voiceUpdated_eq_voiceAnswered hV, instanceAfter]

/-- A decoder command on CPORT to the decoder unit is an update of decoder INST. -/
theorem decoderCommand_on_cport (hu : unitOfCode c.unit = some .dec) (ha : select .dec = some a) (hp : s.port = .cport)
    (fmt : OperandFormat) (rule : α → Decoder → Reply Decoder) :
    decoderCommand select fmt c s rule =
      .next (s.decoderUpdated c.inst.toNat (instanceAfter (reservedBitsSet fmt c) (rule a))
        (instanceResponse (reservedBitsSet fmt c) (rule a) s.decoders[c.inst.toNat]?)) := by
  cases hD : s.decoders[c.inst.toNat]? with
  | none =>
    have hport : s.port = unitPort .dec := hp
    rw [State.decoderUpdated_eq_withResponse (by simp [hD]), ← hp]
    simp only [decoderCommand, hu, ha, hD, if_neg (not_not_intro hport), raise_eq_withResponse, instanceResponse]
  | some D =>
    rw [decoderCommand_of_reached ⟨hu, hp, hD⟩ ha, State.rejected, State.rejected, hp]
    cases hr : reservedBitsSet fmt c with
    | true => exact congrArg _ (State.decoderUpdated_eq_withResponse (fun _ _ => rfl) _).symm
    | false =>
      cases hrule : rule a D with
      | violation =>
        rw [State.decoderUpdated_eq_withResponse (by simp [hD, instanceAfter, hrule])]
        simp [instanceResponse, hrule]
      | ok D' d =>
        simp [instanceResponse, hrule, State.decoderUpdated_eq_decoderAnswered hD, instanceAfter]

end Templates

/-- The status of a command whose unit is not accepted or not on the command's port (R333). -/
def offPortStatus {α : Type} (select : UnitId → Option α) (c : CommandFields) : Status :=
  if ((unitOfCode c.unit).bind select).isSome then .wrongPort else .illegalUnit

/-- A command to no accepted unit of its port is rejected before it looks at a voice. -/
theorem voiceCommand_off_port {α : Type} {c : CommandFields} {s : State} {select : UnitId → Option α}
    (h : ∀ u, unitOfCode c.unit = some u → (select u).isSome → s.port ≠ unitPort u) (fmt : OperandFormat)
    (rule : α → Voice → Reply Voice) :
    voiceCommand select fmt c s rule = .next (s.withResponse s.port ⟨offPortStatus select c, 0#32⟩) := by
  cases hu : unitOfCode c.unit with
  | none => simp [voiceCommand, offPortStatus, hu, raise_eq_withResponse]
  | some u =>
    cases ha : select u with
    | none => simp [voiceCommand, offPortStatus, hu, ha, raise_eq_withResponse]
    | some a => simp [voiceCommand, offPortStatus, hu, ha, h u hu (by simp [ha]), raise_eq_withResponse]

/-- A command to no accepted unit of its port is rejected before it looks at a decoder. -/
theorem decoderCommand_off_port {α : Type} {c : CommandFields} {s : State} {select : UnitId → Option α}
    (h : ∀ u, unitOfCode c.unit = some u → (select u).isSome → s.port ≠ unitPort u) (fmt : OperandFormat)
    (rule : α → Decoder → Reply Decoder) :
    decoderCommand select fmt c s rule = .next (s.withResponse s.port ⟨offPortStatus select c, 0#32⟩) := by
  cases hu : unitOfCode c.unit with
  | none => simp [decoderCommand, offPortStatus, hu, raise_eq_withResponse]
  | some u =>
    cases ha : select u with
    | none => simp [decoderCommand, offPortStatus, hu, ha, raise_eq_withResponse]
    | some a => simp [decoderCommand, offPortStatus, hu, ha, h u hu (by simp [ha]), raise_eq_withResponse]

/-- The three ways a command with the fields c can work: answer whatever the state holds, or be one of the two
templates. The rule of a voice command may read the parameters, that of a decoder command reads nothing of the state. -/
inductive CommandShape (c : CommandFields) (run : State → Host.Outcome State Fault Refusal) : Prop where
  | answer (st : Status) (h : ∀ s, run s = .next (s.respond st 0#32))
  | voice {α : Type} (select : UnitId → Option α) (fmt : OperandFormat) (rule : State → α → Voice → Reply Voice)
      (hdec : unitOfCode c.unit = some .dec → select .dec = none)
      (h : ∀ s, run s = voiceCommand select fmt c s (rule s))
      (hparams : ∀ s s' : State, s.params = s'.params → rule s = rule s')
  | decoder (fmt : OperandFormat) (rule : Unit → Decoder → Reply Decoder)
      (h : ∀ s, run s = decoderCommand selectDec fmt c s rule)

theorem execReadReg_shape (c : CommandFields) : CommandShape c (execReadReg c) := by
  by_cases hu : unitOfCode c.unit = some .dec
  · exact .decoder .regidx (fun _ D => readRegReply (decRegs D) c.operand D) fun s => by rw [execReadReg, hu]
  · refine .voice selectAny .regidx (fun _ u V => readRegReply (voiceUnitRegs V u) c.operand V)
      (fun h => absurd h hu) (fun s => ?_) fun _ _ _ => rfl
    unfold execReadReg
    split
    · contradiction
    · rfl

/-- Every instruction has one of the three shapes. -/
theorem exec_shape (i : Instr) : CommandShape i.fields (exec i) := by
  cases i
  case nop c => exact .answer .ok fun _ => rfl
  case readReg c => exact execReadReg_shape c
  case decByte c => exact .decoder _ _ fun _ => by unfold exec; rfl
  case decClearCounters c => exact .decoder _ _ fun _ => by unfold exec; rfl
  case oscRead | egNoteOff | egAdvance | egRead | vcfRead | vcaRead | mixRead =>
    exact .voice _ _ _ (fun _ => rfl)
      (fun _ => by
        dsimp only [exec, execOscRead, execEgNoteOff, execEgAdvance, execEgRead, execVcfRead, execVcaRead, execMixRead,
          oscCommand, egCommand, vcfCommand, vcaCommand, mixCommand]
        rfl)
      (fun s s' h => by simp only [h])
  all_goals exact .voice _ _ _ (fun _ => rfl) (fun _ => by unfold exec; rfl) (fun s s' h => by simp only [h])

/-- On APORT `run` rewrites voice k by a function of the parameters and answers by the parameters and that voice. -/
def ActsOnVoice (k : Nat) (run : State → Host.Outcome State Fault Refusal) : Prop :=
  ∃ (f : Params → Voice → Voice) (r : Params → Option Voice → Response), ∀ s, s.port = .aport →
    run s = .next (s.voiceUpdated k (f s.params) (r s.params s.voices[k]?))

/-- On CPORT `run` rewrites decoder k by a fixed function and answers by that decoder. -/
def ActsOnDecoder (k : Nat) (run : State → Host.Outcome State Fault Refusal) : Prop :=
  ∃ (f : Decoder → Decoder) (r : Option Decoder → Response), ∀ s, s.port = .cport →
    run s = .next (s.decoderUpdated k f (r s.decoders[k]?))

section Locality
variable {c : CommandFields} {k : Nat} {run : State → Host.Outcome State Fault Refusal} {r : Response}

theorem actsOnVoice_of_answers (h : ∀ s, s.port = .aport → run s = .next (s.withResponse .aport r)) :
    ActsOnVoice k run :=
  ⟨fun _ => id, fun _ _ => r, fun s hp =>
    (h s hp).trans (congrArg _ (State.voiceUpdated_eq_withResponse (fun _ _ => rfl) r).symm)⟩

theorem actsOnDecoder_of_answers (h : ∀ s, s.port = .cport → run s = .next (s.withResponse .cport r)) :
    ActsOnDecoder k run :=
  ⟨id, fun _ => r, fun s hp =>
    (h s hp).trans (congrArg _ (State.decoderUpdated_eq_withResponse (fun _ _ => rfl) r).symm)⟩

/-- A command on APORT touches voice INST only. -/
theorem CommandShape.actsOnVoice (hshape : CommandShape c run) : ActsOnVoice c.inst.toNat run := by
  cases hshape with
  | answer st h =>
    exact actsOnVoice_of_answers fun s hp => by rw [h, State.respond_eq_withResponse, hp]
  | decoder fmt rule h =>
    refine actsOnVoice_of_answers (r := ⟨offPortStatus selectDec c, 0#32⟩) fun s hp => ?_
    rw [h, decoderCommand_off_port ?_, hp]
    intro u _ hsel
    rw [selectDec_isSome.mp hsel, hp]
    decide
  | voice select fmt rule hdec h hparams =>
    cases hua : (unitOfCode c.unit).bind select with
    | none =>
      refine actsOnVoice_of_answers (r := ⟨offPortStatus select c, 0#32⟩) fun s hp => ?_
      rw [h, voiceCommand_off_port ?_, hp]
      intro u hu hsel
      rw [hu, Option.bind_some] at hua
      simp [hua] at hsel
    | some a =>
      obtain ⟨u, hu, ha⟩ := Option.bind_eq_some_iff.mp hua
      have hne : u ≠ .dec := by
        rintro rfl
        simp [hdec hu] at ha
      refine ⟨fun p => instanceAfter (reservedBitsSet fmt c) (rule (State.resetWith p 0 0) a),
        fun p => instanceResponse (reservedBitsSet fmt c) (rule (State.resetWith p 0 0) a), fun s hp => ?_⟩
      rw [h, hparams s (State.resetWith s.params 0 0) rfl]
      exact voiceCommand_on_aport hu ha hne hp fmt _

/-- A command on CPORT touches decoder INST only. -/
theorem CommandShape.actsOnDecoder (hshape : CommandShape c run) : ActsOnDecoder c.inst.toNat run := by
  cases hshape with
  | answer st h =>
    exact actsOnDecoder_of_answers fun s hp => by rw [h, State.respond_eq_withResponse, hp]
  | voice select fmt rule hdec h hparams =>
    refine actsOnDecoder_of_answers (r := ⟨offPortStatus select c, 0#32⟩) fun s hp => ?_
    rw [h, voiceCommand_off_port ?_, hp]
    intro u hu hsel
    have hne : u ≠ .dec := by
      rintro rfl
      simp [hdec hu] at hsel
    rw [unitPort_eq_aport hne, hp]
    decide
  | decoder fmt rule h =>
    by_cases hu : unitOfCode c.unit = some .dec
    · have hsel : selectDec .dec = some () := rfl
      exact ⟨_, _, fun s hp => (h s).trans (decoderCommand_on_cport hu hsel hp fmt rule)⟩
    · refine actsOnDecoder_of_answers (r := ⟨offPortStatus selectDec c, 0#32⟩) fun s hp => ?_
      rw [h, decoderCommand_off_port ?_, hp]
      intro u hu' hsel
      rw [selectDec_isSome.mp hsel] at hu'
      exact absurd hu' hu

end Locality

end Sys2Proof.Machine
end

section
/-! PROOFS. A step that takes a command touches one voice or decoder of its port and depends on no other (R53, R54). -/

namespace Sys2Proof.Machine

/-- What a step does with a command word, once the command is accepted on its port. -/
def execWord (w : CommandWord) (s : State) : Host.Outcome State Fault Refusal :=
  match decode w with
  | .ok i => exec i s
  | .error _ => rejectUnassigned s

theorem step_command {s : State} {p : Port} {w : CommandWord} {rest : List HostInput}
    (h : s.inputs = .command p w :: rest) : step s = execWord w (s.accept p rest) := by
  rw [step, h]; rfl

/-- A decoded instruction has the fields of its word. -/
theorem fields_of_decode {w : CommandWord} {i : Instr} (h : decode w = .ok i) : i.fields = commandFields w := by
  unfold decode at h
  split at h <;> cases h <;> rfl

theorem execWord_shape (w : CommandWord) : CommandShape (commandFields w) (execWord w) := by
  cases hd : decode w with
  | error e => exact .answer .illegalOpcode fun s => by rw [execWord, hd]; rfl
  | ok i =>
    have hexec : execWord w = exec i := by
      funext s
      rw [execWord, hd]
    rw [hexec, ← fields_of_decode hd]
    exact exec_shape i

/-- The step of a command on APORT. -/
theorem step_aport (w : CommandWord) :
    ∃ (f : Params → Voice → Voice) (r : Params → Option Voice → Response),
      ∀ (s : State) (rest : List HostInput), s.inputs = .command .aport w :: rest →
        step s = .next ((s.accept .aport rest).voiceUpdated (commandFields w).inst.toNat (f s.params)
          (r s.params s.voices[(commandFields w).inst.toNat]?)) := by
  obtain ⟨f, r, h⟩ := (execWord_shape w).actsOnVoice
  exact ⟨f, r, fun s rest hin => (step_command hin).trans (h _ rfl)⟩

/-- The step of a command on CPORT. -/
theorem step_cport (w : CommandWord) :
    ∃ (f : Decoder → Decoder) (r : Option Decoder → Response),
      ∀ (s : State) (rest : List HostInput), s.inputs = .command .cport w :: rest →
        step s = .next ((s.accept .cport rest).decoderUpdated (commandFields w).inst.toNat f
          (r s.decoders[(commandFields w).inst.toNat]?)) := by
  obtain ⟨f, r, h⟩ := (execWord_shape w).actsOnDecoder
  exact ⟨f, r, fun s rest hin => (step_command hin).trans (h _ rfl)⟩

/-- Settles O15: the update and the response of a step come from the voices or the decoders of its port alone. -/
theorem portSeparation : Obligations.PortSeparation := by
  constructor
  · intro s t s' t' w rest rest' hin hin' hs hs'
    obtain ⟨f, r, hstep⟩ := step_aport w
    obtain rfl := Host.Outcome.next.inj ((hstep s rest hin).symm.trans hs)
    obtain rfl := Host.Outcome.next.inj ((hstep s' rest' hin').symm.trans hs')
    refine ⟨rfl, rfl, fun hparams hvoices hout => ?_⟩
    simp [hparams, hvoices, hout]
  · intro s t s' t' w rest rest' hin hin' hs hs'
    obtain ⟨f, r, hstep⟩ := step_cport w
    obtain rfl := Host.Outcome.next.inj ((hstep s rest hin).symm.trans hs)
    obtain rfl := Host.Outcome.next.inj ((hstep s' rest' hin').symm.trans hs')
    refine ⟨rfl, rfl, fun hdecoders hout => ?_⟩
    simp [hdecoders, hout]

/-- Settles O16: a step rewrites number INST on its port by a function that sees no other voice or decoder. -/
theorem instanceIndependence : Obligations.InstanceIndependence := by
  intro s t s' t' p w rest rest' hin hin' hs hs' k
  cases p with
  | aport =>
    obtain ⟨f, r, hstep⟩ := step_aport w
    obtain rfl := Host.Outcome.next.inj ((hstep s rest hin).symm.trans hs)
    obtain rfl := Host.Outcome.next.inj ((hstep s' rest' hin').symm.trans hs')
    refine ⟨fun j hj => ⟨List.getElem?_modify_ne _ _ hj.symm, rfl⟩, fun hparams hvoice hdecoder => ?_⟩
    refine ⟨?_, hdecoder, r s.params s.voices[k]?, rfl, ?_⟩
    · simp [k, hparams, hvoice, List.getElem?_modify_eq]
    · simp [k, hparams, hvoice]
  | cport =>
    obtain ⟨f, r, hstep⟩ := step_cport w
    obtain rfl := Host.Outcome.next.inj ((hstep s rest hin).symm.trans hs)
    obtain rfl := Host.Outcome.next.inj ((hstep s' rest' hin').symm.trans hs')
    refine ⟨fun j hj => ⟨rfl, List.getElem?_modify_ne _ _ hj.symm⟩, fun _ hvoice hdecoder => ?_⟩
    refine ⟨hvoice, ?_, r s.decoders[k]?, rfl, ?_⟩
    · simp [k, hdecoder, List.getElem?_modify_eq]
    · simp [k, hdecoder]

end Sys2Proof.Machine
end

section
/-! PROOFS. The unit codes and the register tables (R31, R36, R221, R323). -/

namespace Sys2Proof.Machine

theorem voiceUnitRegs_osc (V : Voice) (o : OscId) : voiceUnitRegs V (.osc o) = oscRegs (V.osc o) := by
  cases o <;> rfl

theorem voiceUnitRegs_eg (V : Voice) (e : EgId) : voiceUnitRegs V (.eg e) = egRegs (V.eg e) := by
  cases e <;> rfl

/-- Settles O57: the codes by evaluation, the registers of a unit through the unit the name selects. -/
theorem registerTable : Obligations.RegisterTable := by
  refine ⟨by decide, ?_, ?_, fun V o => ?_, fun V e => ?_, fun V => ⟨rfl, rfl, rfl, rfl⟩, fun D => rfl⟩
  · exact fun V x => ⟨rfl, rfl, rfl, rfl, rfl, rfl, rfl, rfl, rfl, rfl⟩
  · exact fun V x => ⟨rfl, rfl, rfl, rfl⟩
  · exact (voiceUnitRegs_osc V o).trans rfl
  · exact (voiceUnitRegs_eg V e).trans rfl

end Sys2Proof.Machine
end

section
/-! PROOFS. The two ports share nothing that a command writes, so the order in which their commands interleave cannot be
seen (R84): a run is one fold over the commands of each port. -/

namespace Sys2Proof.Machine

/-- The part of the state that the commands of APORT read or write. -/
structure VoiceSide where
  params : Params
  voices : List Voice
  responses : List Response

/-- The part of the state that the commands of CPORT read or write. -/
structure DecoderSide where
  decoders : List Decoder
  responses : List Response

def State.voiceSide (s : State) : VoiceSide := ⟨s.params, s.voices, s.aportOut⟩

def State.decoderSide (s : State) : DecoderSide := ⟨s.decoders, s.cportOut⟩

/-- The command word of an interaction; a reset has none, and no statement here reads its word. -/
def wordOf : HostInput → CommandWord
  | .command _ w => w
  | .reset => 0#64

/-- A command on APORT takes the voice side to a function of itself and keeps the decoder side. -/
theorem step_sides_aport (w : CommandWord) :
    ∃ F : VoiceSide → VoiceSide, ∀ (s : State) (rest : List HostInput), s.inputs = .command .aport w :: rest →
      ∃ t, step s = .next t ∧ t.inputs = rest ∧ t.voiceSide = F s.voiceSide ∧ t.decoderSide = s.decoderSide := by
  obtain ⟨f, r, hstep⟩ := step_aport w
  let k := (commandFields w).inst.toNat
  exact ⟨fun a => ⟨a.params, a.voices.modify k (f a.params), a.responses ++ [r a.params a.voices[k]?]⟩,
    fun s rest hin => ⟨_, hstep s rest hin, rfl, rfl, rfl⟩⟩

/-- A command on CPORT takes the decoder side to a function of itself and keeps the voice side. -/
theorem step_sides_cport (w : CommandWord) :
    ∃ G : DecoderSide → DecoderSide, ∀ (s : State) (rest : List HostInput), s.inputs = .command .cport w :: rest →
      ∃ t, step s = .next t ∧ t.inputs = rest ∧ t.voiceSide = s.voiceSide ∧ t.decoderSide = G s.decoderSide := by
  obtain ⟨f, r, hstep⟩ := step_cport w
  let k := (commandFields w).inst.toNat
  exact ⟨fun a => ⟨a.decoders.modify k f, a.responses ++ [r a.decoders[k]?]⟩,
    fun s rest hin => ⟨_, hstep s rest hin, rfl, rfl, rfl⟩⟩

theorem core_run_succ {s t : State} (h : step s = .next t) (k : Nat) : core.run (k + 1) s = core.run k t := by
  have hstep : core.step s = .next t := h
  simp only [Host.Core.run, hstep]

/-- A run of commands completes, and each side ends as a fold over the commands of its own port alone. -/
theorem run_commands_sides :
    ∃ (F : CommandWord → VoiceSide → VoiceSide) (G : CommandWord → DecoderSide → DecoderSide),
      ∀ (l : List HostInput) (s : State), onlyCommands l → s.inputs = l →
        ∃ t : State, core.run l.length s = .next t ∧
          t.voiceSide = (inputsOn .aport l).foldl (fun a x => F (wordOf x) a) s.voiceSide ∧
          t.decoderSide = (inputsOn .cport l).foldl (fun a x => G (wordOf x) a) s.decoderSide := by
  choose F hF using step_sides_aport
  choose G hG using step_sides_cport
  refine ⟨F, G, fun l => ?_⟩
  induction l with
  | nil => exact fun s _ _ => ⟨s, rfl, rfl, rfl⟩
  | cons x rest ih =>
    intro s hl hin
    obtain ⟨hx, hrest⟩ := List.forall_mem_cons.mp hl
    cases x with
    | reset => exact absurd rfl hx
    | command p w =>
      cases p with
      | aport =>
        obtain ⟨u, hu, hinputs, hvoice, hdecoder⟩ := hF w s rest hin
        obtain ⟨t, ht, htv, htd⟩ := ih u hrest hinputs
        exact ⟨t, (core_run_succ hu _).trans ht, htv.trans (by rw [hvoice]; rfl), htd.trans (by rw [hdecoder]; rfl)⟩
      | cport =>
        obtain ⟨u, hu, hinputs, hvoice, hdecoder⟩ := hG w s rest hin
        obtain ⟨t, ht, htv, htd⟩ := ih u hrest hinputs
        exact ⟨t, (core_run_succ hu _).trans ht, htv.trans (by rw [hvoice]; rfl), htd.trans (by rw [hdecoder]; rfl)⟩

/-- Settles O17: both runs fold the same two command sequences, one over each side. -/
theorem interleavingUnobservable : Obligations.InterleavingUnobservable := by
  intro s l l' hl hl' haport hcport
  obtain ⟨F, G, hrun⟩ := run_commands_sides
  obtain ⟨t, ht, hvoice, hdecoder⟩ := hrun l { s with inputs := l } hl rfl
  obtain ⟨t', ht', hvoice', hdecoder'⟩ := hrun l' { s with inputs := l' } hl' rfl
  have hv : t.voiceSide = t'.voiceSide := by rw [hvoice, hvoice', haport]; rfl
  have hd : t.decoderSide = t'.decoderSide := by rw [hdecoder, hdecoder', hcport]; rfl
  exact ⟨t, t', ht, ht', congrArg VoiceSide.params hv, congrArg VoiceSide.voices hv, congrArg DecoderSide.decoders hd,
    congrArg VoiceSide.responses hv, congrArg DecoderSide.responses hd⟩

end Sys2Proof.Machine
end

section
/-! PROOFS. The ROM reads are inside the ROMs, and the sine at the quarter points (R76, R86, R158). -/

namespace Sys2Proof.Machine

/-- The requirement on SINE_TABLE, as propositions (R86). -/
theorem sineTableLegal_iff (t : List F32) :
    sineTableLegal t = true ↔
      t.length = 360 ∧ (∀ w ∈ t, f32Finite w = true ∧ -1 ≤ val w ∧ val w ≤ 1) ∧ t[0]? = some plusZero ∧
      t[90]? = some plusOne ∧ (∃ w, t[180]? = some w ∧ val w = 0) ∧ t[270]? = some minusOne := by
  simp [sineTableLegal, f32Within_iff, and_assoc]

theorem length_of_noteTableLegal {t : List F32} (h : noteTableLegal t = true) : t.length = 108 := by
  simp only [noteTableLegal, Bool.and_eq_true, beq_iff_eq] at h
  obtain ⟨⟨⟨⟨hlength, -⟩, -⟩, -⟩, -⟩ := h
  exact hlength

/-- A sine read below the length of the ROM is an entry of the ROM. -/
theorem sineTable_getElem? {par : Params} {k : Nat} (h : k < par.sineTable.length) :
    par.sineTable[k]? = some (memReadSine par k) := by
  rw [memReadSine_eq (List.getElem?_eq_getElem h), List.getElem?_eq_getElem h]

theorem noteTable_getElem? {par : Params} {n : Nat} (h : n < par.noteTable.length) :
    par.noteTable[n]? = some (memReadNote par n) := by
  rw [memReadNote_eq (List.getElem?_eq_getElem h), List.getElem?_eq_getElem h]

/-- The sine index of a phase inside its period is one of the 360 degrees (R76). -/
theorem sineIndex_lt {p P : Nat} (h : p < P) : p * 360 / P < 360 :=
  Nat.div_lt_of_lt_mul (Nat.mul_lt_mul_of_pos_right h (by decide))

/-- k quarters of a period of 4m samples are 90k degrees. -/
theorem sineIndex_quarter (k : Nat) {m : Nat} (hm : 0 < m) : k * m * 360 / (4 * m) = k * 90 := by
  rw [show k * m * 360 = k * 90 * (4 * m) by ring, Nat.mul_div_cancel _ (by omega)]

/-- The sine of phase k quarters of a period is the entry of 90k degrees. -/
theorem waveOut_sine_quarter {par : Params} {k m : Nat} {w : F32} (hm : 0 < m) (h : par.sineTable[k * 90]? = some w) :
    waveOut par .sine (k * m) (4 * m) = some w := by
  rw [waveOut, sineIndex_quarter k hm, memReadSine_eq h]

/-- Settles O30: the table's requirement gives its length and its quarter entries, and the index of a phase is the
floor of its degrees. -/
theorem romIndices : Obligations.RomIndices := by
  refine ⟨fun t => ?_, fun par hsine hnote => ?_⟩
  · simp only [sineTableLegal_iff, finiteWith_iff]
    constructor
    · rintro ⟨hlength, hall, h0, h90, ⟨w, h180, hw⟩, h270⟩
      exact ⟨hlength, hall, h0, h90, ⟨w, h180, (hall w (List.mem_of_getElem? h180)).1, hw⟩, h270⟩
    · rintro ⟨hlength, hall, h0, h90, ⟨w, h180, -, hw⟩, h270⟩
      exact ⟨hlength, hall, h0, h90, ⟨w, h180, hw⟩, h270⟩
  · obtain ⟨hlength, hall, h0, h90, ⟨w, h180, hw⟩, h270⟩ := (sineTableLegal_iff _).mp hsine
    refine ⟨fun p P hp => ⟨sineTable_getElem? (hlength ▸ sineIndex_lt hp), rfl⟩,
      fun n hn => noteTable_getElem? (length_of_noteTableLegal hnote ▸ hn), ?_⟩
    rintro _ hP ⟨m, rfl⟩
    have hm : 0 < m := by omega
    have hfinite : f32Finite w = true := (hall w (List.mem_of_getElem? h180)).1
    rw [show 4 * m / 4 = 1 * m by omega, show 4 * m / 2 = 2 * m by omega, show 3 * (4 * m) / 4 = 3 * m by omega]
    have hzero := waveOut_sine_quarter (k := 0) hm h0
    rw [Nat.zero_mul] at hzero
    exact ⟨hzero, waveOut_sine_quarter hm h90, ⟨w, waveOut_sine_quarter hm h180, finiteWith_iff.mpr ⟨hfinite, hw⟩⟩,
      waveOut_sine_quarter hm h270⟩

end Sys2Proof.Machine
end

section
/-! PROOFS. A word decodes to the command whose opcode and fields it holds, and to no other, so the words refused are
those whose opcode no command has (R101, R110, R111, R115). -/

namespace Sys2Proof.Machine

/-- A decoded instruction has the opcode of its word. -/
theorem opcode_of_decode {w : CommandWord} {i : Instr} (h : decode w = .ok i) : i.opcode = opcodeField w := by
  unfold decode at h
  split at h <;> cases h <;> exact Eq.symm ‹_›

/-- The decoder reads the opcode and the other fields, and nothing else of a word. -/
theorem decode_eq_ok_iff {w : CommandWord} {i : Instr} :
    decode w = .ok i ↔ i.opcode = opcodeField w ∧ i.fields = commandFields w := by
  refine ⟨fun h => ⟨opcode_of_decode h, fields_of_decode h⟩, fun ⟨hopc, hfields⟩ => ?_⟩
  rw [decode, ← hopc, ← hfields]
  cases i <;> rfl

/-- The packed opcode and fields of a command decode to it. -/
theorem decode_packWord {opc : BitVec 8} {c : CommandFields} {i : Instr} (hopc : i.opcode = opc)
    (hfields : i.fields = c) : decode (packWord opc c) = .ok i :=
  decode_eq_ok_iff.mpr
    ⟨hopc.trans (Laws.opcodeField_packWord opc c).symm, hfields.trans (Laws.commandFields_packWord opc c).symm⟩

theorem decode_encode (i : Instr) : decode (encode i) = .ok i := decode_packWord rfl rfl

/-- No command of R110 has an opcode that R111 lists. -/
theorem not_unassignedOpcode_opcode (i : Instr) : ¬ unassignedOpcode i.opcode.toNat := by
  cases i <;> simp [unassignedOpcode, Instr.opcode]

/-- An opcode that matches no row of the decoder lies in one of the gaps between the 37 opcodes of R110. -/
theorem unassignedOpcode_of_decode_error {w : CommandWord} {e : DecodeError} (h : decode w = .error e) :
    unassignedOpcode (opcodeField w).toNat := by
  have hlt : (opcodeField w).toNat < 256 := (opcodeField w).isLt
  unfold decode at h
  split at h
  case h_38 =>
    simp only [imp_false, BitVec.toNat_eq, BitVec.toNat_ofNat] at *
    unfold unassignedOpcode
    omega
  all_goals cases h

/-- A word is refused exactly when its opcode is in the ranges of R111. -/
theorem decode_error_iff (w : CommandWord) :
    (∃ e, decode w = .error e) ↔ unassignedOpcode (opcodeField w).toNat := by
  refine ⟨fun ⟨_, he⟩ => unassignedOpcode_of_decode_error he, fun hun => ?_⟩
  cases hd : decode w with
  | error e => exact ⟨e, rfl⟩
  | ok i => exact absurd (opcode_of_decode hd ▸ hun) (not_unassignedOpcode_opcode i)

/-- Settles O3: each listed opcode and field record is that of its command, and the refused words by their opcode. -/
theorem unassignedOpcodes : Obligations.UnassignedOpcodes := by
  refine ⟨fun c x hx => ?_, decode_error_iff⟩
  have hrow : x.2.opcode = x.1 ∧ x.2.fields = c := by
    revert x
    simp [Instr.opcode, Instr.fields]
  obtain ⟨hopc, hfields⟩ := hrow
  exact decode_packWord hopc hfields

/-- Settles O4: the encodings by evaluation, and each word decodes because it is an encoding. -/
theorem workedEncodings : Obligations.WorkedEncodings := by
  intro x hx
  have hencode : encode x.2 = x.1 := by
    revert x
    decide
  exact ⟨hencode ▸ decode_encode x.2, hencode⟩

end Sys2Proof.Machine
end

section
/-! PROOFS. The full cycle of the noise generator (R166): the period of a nonzero state divides 2^32 - 1, the product of
the primes 2^h + 1 for h = 1, 2, 4, 8, 16, and no quotient by one of them is a period. -/

namespace Sys2Proof.Machine

/-- `k w`, where the kernel has to evaluate `w` to a numeral before it enters `k`. -/
def withNumeral {α : Type} (w : BitVec 32) (k : BitVec 32 → α) : α :=
  match w.toNat with
  | 0 => k 0#32
  | n + 1 => k (BitVec.ofNat 32 (n + 1))

theorem withNumeral_eq {α : Type} (w : BitVec 32) (k : BitVec 32 → α) : withNumeral w k = k w := by
  have hw : BitVec.ofNat 32 w.toNat = w := by simp
  unfold withNumeral
  split <;> rename_i h <;> rw [h] at hw <;> rw [hw]

/-- The powers that `noisePowersLink` checks, from the binary digits: squares, times x for the digit 1. -/
def noisePowers : BitVec 32 → List Bool → List (Bool × BitVec 32)
  | _, [] => []
  | p, d :: ds =>
    withNumeral (if d then lfsrStep (noiseMul p p) else noiseMul p p) fun q => (d, q) :: noisePowers q ds

theorem noisePowers_cons (p : BitVec 32) (d : Bool) (ds : List Bool) :
    noisePowers p (d :: ds) = (d, if d then lfsrStep (noiseMul p p) else noiseMul p p) ::
      noisePowers (if d then lfsrStep (noiseMul p p) else noiseMul p p) ds := by
  rw [noisePowers, withNumeral_eq]

theorem noisePowersLink_noisePowers (p : BitVec 32) (ds : List Bool) :
    noisePowersLink p (noisePowers p ds) = true := by
  induction ds generalizing p with
  | nil => rfl
  | cons d ds ih => rw [noisePowers_cons, noisePowersLink, decide_eq_true rfl, ih, Bool.true_and]

theorem map_fst_noisePowers (p : BitVec 32) (ds : List Bool) : (noisePowers p ds).map (·.1) = ds := by
  induction ds generalizing p with
  | nil => rfl
  | cons d ds ih => rw [noisePowers_cons, List.map_cons, ih]

/-- The power of x with these binary digits, the highest first, as exponent. -/
def noisePower (ds : List Bool) : BitVec 32 := ((noisePowers noiseOne ds).map (·.2)).getLastD noiseOne

theorem lfsrStep_iterate_noiseOne (ds : List Bool) : lfsrStep^[binaryNumber ds] noiseOne = noisePower ds := by
  have h := lfsrStep_iterate_of_link _ (noisePowersLink_noisePowers noiseOne ds)
  rwa [map_fst_noisePowers] at h

/-- The length 2^32 - 1 of the cycle. -/
def noisePeriod : Nat := 2 ^ 32 - 1

/-- Every state comes back after 2^32 - 1 steps (R166). -/
theorem lfsrStep_iterate_noisePeriod (s : BitVec 32) : lfsrStep^[noisePeriod] s = s := by
  have hdigits : binaryNumber (List.replicate 32 true) = noisePeriod := by decide +kernel
  have hone : noisePower (List.replicate 32 true) = noiseOne := by decide +kernel
  rw [lfsrStep_iterate, ← hdigits, lfsrStep_iterate_noiseOne, hone, noiseOne_mul]

/-- The 32 binary digits of (2^32 - 1) / (2^h + 1), for h a divisor of 16: h zeros and h ones in turn. -/
def cofactorDigits (h : Nat) : List Bool :=
  (List.replicate (16 / h) (List.replicate h false ++ List.replicate h true)).flatten

/-- A nonzero state does not come back after (2^32 - 1) / q steps, for any prime divisor q: the power of x less 1 has
an inverse. -/
theorem lfsrStep_iterate_cofactor_ne {s : BitVec 32} (hs : s ≠ 0#32) {q : Nat} (hq : q.Prime)
    (hdvd : q ∣ noisePeriod) : lfsrStep^[noisePeriod / q] s ≠ s := by
  have hfactors : noisePeriod = [3, 5, 17, 257, 65537].prod := by decide
  have key : ∀ (h : Nat) (inverse : BitVec 32), binaryNumber (cofactorDigits h) = noisePeriod / (2 ^ h + 1) →
      noiseMul inverse (noisePower (cofactorDigits h) ^^^ noiseOne) = noiseOne →
      lfsrStep^[noisePeriod / (2 ^ h + 1)] s ≠ s := by
    intro h inverse hdigits hinverse hfixed
    rw [← hdigits] at hfixed
    exact hs (eq_zero_of_iterate_fixed (lfsrStep_iterate_noiseOne _) hinverse hfixed)
  have hmem : q ∈ [3, 5, 17, 257, 65537] :=
    mem_list_primes_of_dvd_prod hq.prime (by norm_num [← Nat.prime_iff]) (hfactors ▸ hdvd)
  simp only [List.mem_cons, List.not_mem_nil, or_false] at hmem
  obtain rfl | rfl | rfl | rfl | rfl := hmem
  · exact key 1 0x41347F99#32 (by decide +kernel) (by decide +kernel)
  · exact key 2 0xBB97AB84#32 (by decide +kernel) (by decide +kernel)
  · exact key 4 0x2CE8F30A#32 (by decide +kernel) (by decide +kernel)
  · exact key 8 0xEE51AB6F#32 (by decide +kernel) (by decide +kernel)
  · exact key 16 0x74FDBC86#32 (by decide +kernel) (by decide +kernel)

/-- A period of which no quotient by a prime is one is the least. -/
theorem minimalPeriod_eq_of_div_prime {α : Type} {f : α → α} {x : α} {n : Nat} (hx : f^[n] x = x)
    (hprime : ∀ q, q.Prime → q ∣ n → f^[n / q] x ≠ x) : Function.minimalPeriod f x = n := by
  have hper : Function.IsPeriodicPt f n x := hx
  obtain ⟨a, ha⟩ := hper.minimalPeriod_dvd
  by_cases h1 : a = 1
  · rw [ha, h1, mul_one]
  · obtain ⟨q, hq, b, rfl⟩ := Nat.exists_prime_and_dvd h1
    have hquot : n / q = Function.minimalPeriod f x * b :=
      Nat.div_eq_of_eq_mul_left hq.pos (ha.trans (by ring))
    refine absurd ?_ (hprime q hq ⟨Function.minimalPeriod f x * b, ha.trans (by ring)⟩)
    rw [hquot]
    exact (Function.isPeriodicPt_minimalPeriod f x).mul_const b

theorem minimalPeriod_lfsrStep {s : BitVec 32} (hs : s ≠ 0#32) : Function.minimalPeriod lfsrStep s = noisePeriod :=
  minimalPeriod_eq_of_div_prime (lfsrStep_iterate_noisePeriod s) fun _ hq hdvd =>
    lfsrStep_iterate_cofactor_ne hs hq hdvd

theorem lfsrStep_ne_zero {s : BitVec 32} (hs : s ≠ 0#32) : lfsrStep s ≠ 0#32 := fun h =>
  hs (lfsrStep_injective (h.trans lfsrStep_zero.symm))

theorem lfsrStep_iterate_ne_zero {s : BitVec 32} (hs : s ≠ 0#32) (k : Nat) : lfsrStep^[k] s ≠ 0#32 := fun h =>
  hs (lfsrStep_injective.iterate k (h.trans (Function.iterate_fixed lfsrStep_zero k).symm))

/-- The first 2^32 - 1 steps from a nonzero state reach every nonzero state: they are as many as those (R166). -/
theorem exists_lfsrStep_iterate_eq {s t : BitVec 32} (hs : s ≠ 0#32) (ht : t ≠ 0#32) :
    ∃ k, k < noisePeriod ∧ lfsrStep^[k] s = t := by
  have hpos : ∀ {w : BitVec 32}, w ≠ 0#32 → w.toNat ∈ Finset.Ioo 0 (2 ^ 32) := fun {w} hw =>
    Finset.mem_Ioo.mpr ⟨Nat.pos_of_ne_zero fun h => hw (BitVec.eq_of_toNat_eq h), w.isLt⟩
  have hsurj := Finset.surjOn_of_injOn_of_card_le (s := Finset.range noisePeriod) (t := Finset.Ioo 0 (2 ^ 32))
    (fun k => (lfsrStep^[k] s).toNat) (fun k _ => hpos (lfsrStep_iterate_ne_zero hs k)) ?_ ?_
  · obtain ⟨k, hk, hkt⟩ := hsurj (hpos ht)
    exact ⟨k, Finset.mem_range.mp hk, BitVec.eq_of_toNat_eq hkt⟩
  · intro j hj k hk hjk
    rw [← minimalPeriod_lfsrStep hs, Finset.coe_range] at hj hk
    exact Function.iterate_injOn_Iio_minimalPeriod hj hk (BitVec.eq_of_toNat_eq hjk)
  · rw [Nat.card_Ioo, Finset.card_range]
    decide

end Sys2Proof.Machine
end

section
/-! PROOFS. The output of the noise generator is exact (R167): an integer of 24 bits divided by a power of two is the
value of a word. -/

namespace Sys2Proof.Machine

/-- A whole number of quanta is not changed by rounding. -/
theorem RoundsTo.eq_of_dvd {k n : Nat} {z : Int} (h : RoundsTo z k n) (hz : (2 ^ k : Int) ∣ z) :
    (n * 2 ^ k : Rat) = z := by
  have hnear := (h.nearest_of_dvd hz).1
  rw [sub_self, abs_zero, abs_nonpos_iff, sub_eq_zero] at hnear
  exact hnear.symm

/-- `rnd32` is exact on an integer of 24 bits divided by 2^e. -/
theorem rnd32_dyadic {m : Int} (hm : |m| < 2 ^ 24) {e : Nat} (he : e ≤ 149) :
    f32Finite (rnd32 (m / 2 ^ e)) = true ∧ val (rnd32 (m / 2 ^ e)) = m / 2 ^ e := by
  have he0 : (0 : Rat) < 2 ^ e := by positivity
  have hquanta : |(m : Rat) / 2 ^ e| * 2 ^ 149 = ((|m| * 2 ^ (149 - e) : Int) : Rat) := by
    rw [abs_div, abs_of_pos he0, div_mul_eq_mul_div, div_eq_iff he0.ne']
    push_cast
    rw [mul_assoc, ← pow_add, Nat.sub_add_cancel he]
  have hlt : |(m : Rat) / 2 ^ e| < overflowBound := by
    have hm' : |(m : Rat)| < 2 ^ 24 := by exact_mod_cast hm
    calc |(m : Rat) / 2 ^ e| = |(m : Rat)| / 2 ^ e := by rw [abs_div, abs_of_pos he0]
      _ ≤ |(m : Rat)| := div_le_self (abs_nonneg _) (one_le_pow₀ one_le_two)
      _ < overflowBound := hm'.trans (by norm_num [overflowBound])
  obtain ⟨k, n, h, hfinite, -, hval⟩ := rnd32_roundsTo hlt
  rw [hquanta] at h
  have hdvd : (2 ^ k : Int) ∣ |m| * 2 ^ (149 - e) := by
    rcases h.lower with rfl | hlower
    · exact one_dvd _
    · have hbinade : (2 : Int) ^ (k + 23) < 2 ^ (24 + (149 - e)) := by
        rw [pow_add 2 24]
        exact lt_of_le_of_lt (by exact_mod_cast hlower) (mul_lt_mul_of_pos_right hm (by positivity))
      have hk := (pow_lt_pow_iff_right₀ (show (1 : Int) < 2 by decide)).mp hbinade
      exact Dvd.dvd.mul_left (pow_dvd_pow 2 (by omega)) _
  refine ⟨hfinite, ?_⟩
  rw [hval, h.eq_of_dvd hdvd, ← hquanta, mul_div_cancel_right₀ _ (by positivity), signFactor_mul_abs]

/-- The output by the top 24 bits of the state, as a number (R167). -/
theorem noiseOut_eq (s : BitVec 32) : noiseOut s = rnd32 (((s.toNat / 2 ^ 8 : Nat) : Rat) / 2 ^ 23 - 1) := by
  have htop : (s.extractLsb' 8 24).toNat = s.toNat / 2 ^ 8 := by
    have hs := s.isLt
    rw [BitVec.extractLsb'_toNat, Nat.shiftRight_eq_div_pow]
    omega
  rw [noiseOut, htop]
  push_cast
  rfl

/-- The output is finite, exact and in [-1, 1 - 2^-23] (R167). -/
theorem noiseOut_exact (s : BitVec 32) :
    FiniteWith (noiseOut s) fun q =>
      q = ((s.toNat / 2 ^ 8 : Nat) : Rat) / 2 ^ 23 - 1 ∧ -1 ≤ q ∧ q ≤ 1 - 1 / 2 ^ 23 := by
  have hs := s.isLt
  rw [noiseOut_eq, finiteWith_iff]
  obtain ⟨n, hn⟩ : ∃ n, s.toNat / 2 ^ 8 = n := ⟨_, rfl⟩
  rw [hn]
  have hlt : n ≤ 2 ^ 24 - 1 := by omega
  have hm : |(n : Int) - 2 ^ 23| < 2 ^ 24 := by rw [abs_lt]; omega
  have hq : (n : Rat) / 2 ^ 23 - 1 = (((n : Int) - 2 ^ 23 : Int) : Rat) / 2 ^ 23 := by push_cast; ring
  obtain ⟨hfinite, hval⟩ := rnd32_dyadic hm (e := 23) (by omega)
  have hlt' : (n : Rat) ≤ (2 ^ 24 - 1 : Nat) := Nat.cast_le.mpr hlt
  rw [hq, hval, ← hq]
  refine ⟨hq ▸ hfinite, rfl, ?_, ?_⟩
  · have : (0 : Rat) ≤ n / 2 ^ 23 := by positivity
    linarith
  · push_cast at hlt'
    linarith

/-- Settles O29: the cycle by the prime divisors of 2^32 - 1, the output because 24 bits round to themselves. -/
theorem noiseGenerator : Obligations.NoiseGenerator := by
  refine ⟨fun _ => rfl, lfsrStep_zero, fun _ => lfsrStep_ne_zero, fun _ _ h => lfsrStep_injective h,
    fun s hs => ⟨?_, ?_, ?_⟩, fun s => ⟨noiseOut_eq s, noiseOut_exact s⟩, fun t j ht hj => ?_, by decide, by decide +kernel⟩
  · exact lfsrStep_iterate_noisePeriod s
  · intro k hk hlt
    exact Function.not_isPeriodicPt_of_pos_of_lt_minimalPeriod hk.ne' (minimalPeriod_lfsrStep hs ▸ hlt)
  · exact fun t ht => exists_lfsrStep_iterate_eq hs ht
  · rw [BitVec.toNat_eq, BitVec.toNat_ofNat, BitVec.toNat_ofNat]
    omega

end Sys2Proof.Machine
end

section
/-! PROOFS. The oscillator step (R157) and the results of the OSC_ commands (R141 to R149): each command that reaches
its oscillator is its rule on it. -/

namespace Sys2Proof.Machine

/-- A frequency of value at most 0 holds the sample (R154). -/
theorem isHeld_of_nonpos {f : F32} (h : FiniteWith f fun q => q ≤ 0) : isHeld f = true := by
  obtain ⟨q, hq, hle⟩ := h
  rw [isHeld, hq]
  exact decide_eq_true hle

/-- A positive frequency, or +∞, does not (R154). -/
theorem isHeld_of_pos {f : F32} (h : f = plusInf ∨ FiniteWith f fun q => 0 < q) : isHeld f = false := by
  obtain rfl | ⟨q, hq, hlt⟩ := h
  · decide
  · rw [isHeld, hq]
    exact decide_eq_false (not_le.mpr hlt)

theorem plusMinusOne_decide (P : Prop) [Decidable P] :
    plusMinusOne (decide P) = if P then plusOne else minusOne := by
  simp only [plusMinusOne, decide_eq_true_eq]

/-- Settles O27: held or not by the value of the frequency, and the output by the waveform. -/
theorem oscStepRule : Obligations.OscStepRule := by
  intro par o m f
  have hf : instantFrequency o m = f := by cases m <;> rfl
  refine ⟨fun hle => ?_, fun hpos => ?_⟩
  · rw [oscStep, hf, isHeld_of_nonpos hle, if_pos rfl]
  · intro P p
    rw [oscStep, hf, isHeld_of_pos hpos, if_neg Bool.false_ne_true, oscSample]
    cases hw : o.wave with
    | noise => simp only [waveOut, noiseOut_eq, if_true]; rfl
    | _ => simp only [waveOut, plusMinusOne_decide, reduceCtorEq, if_false]; rfl

section
variable {c : CommandFields} {s : State} {V : Voice} {o : OscId} {fmt : OperandFormat} {rule : Osc → Reply Osc}

/-- A reserved bit rejects a command that reaches its oscillator (R333). -/
theorem oscCommand_reserved (h : VoiceReached (.osc o) c s V) (hr : reservedBitsSet fmt c = true) :
    oscCommand fmt c s rule = .next (s.rejected .reservedBits) := by
  rw [oscCommand_of_reached h, if_pos hr]

/-- An operand outside the contract rejects (R331). -/
theorem oscCommand_violation (h : VoiceReached (.osc o) c s V) (hr : reservedBitsSet fmt c = false)
    (hrule : rule (V.osc o) = .violation) : oscCommand fmt c s rule = .next (s.rejected .contractViolation) := by
  rw [oscCommand_of_reached h, if_neg (by rw [hr]; decide), hrule]

/-- A legal command stores the new oscillator and answers. -/
theorem oscCommand_ok {x : Osc} {data : BitVec 32} (h : VoiceReached (.osc o) c s V)
    (hr : reservedBitsSet fmt c = false) (hrule : rule (V.osc o) = .ok x data) :
    oscCommand fmt c s rule = .next (s.voiceAnswered c (V.setOsc o x) .ok data) := by
  rw [oscCommand_of_reached h, if_neg (by rw [hr]; decide), hrule]

/-- A legal command whose rule leaves the oscillator answers and changes nothing else. -/
theorem oscCommand_keeps {data : BitVec 32} (h : VoiceReached (.osc o) c s V) (hr : reservedBitsSet fmt c = false)
    (hrule : rule (V.osc o) = .ok (V.osc o) data) : oscCommand fmt c s rule = .next (s.voiceAnswered c V .ok data) := by
  rw [oscCommand_ok h hr hrule, Voice.setOsc_osc_self]

end

theorem checked_of_legal {α : Type} {legal : Bool} {P : Prop} (hiff : legal = true ↔ P) (hP : P) (new : α) :
    checked legal new = .ok new 0#32 := if_pos (hiff.mpr hP)

theorem checked_of_not_legal {α : Type} {legal : Bool} {P : Prop} (hiff : legal = true ↔ P) (hP : ¬P) (new : α) :
    checked legal new = .violation := if_neg (mt hiff.mp hP)

/-- The range check of R105 and R331 is the one of the statements. -/
theorem f32Within_iff_finiteWith {w : F32} {lo hi : Rat} :
    f32Within w lo hi = true ↔ FiniteWith w fun q => lo ≤ q ∧ q ≤ hi := by
  rw [f32Within_iff, finiteWith_iff]

theorem f32FinitePositive_iff_finiteWith {w : F32} : f32FinitePositive w = true ↔ FiniteWith w fun q => 0 < q := by
  rw [f32FinitePositive_iff, finiteWith_iff]

/-- The codes of R36 in order; 7 selects no waveform. -/
theorem waveformOfCode_eq (code : BitVec 3) :
    waveformOfCode code =
      ([.sine, .square, .sawtooth, .triangle, .pulse8, .pulse4, .noise] : List Waveform)[code.toNat]? := by
  revert code
  decide

/-- Settles O45: the rule by the code of the waveform. -/
theorem oscSetWaveformResult : Obligations.OscSetWaveformResult := by
  intro c s V o h
  simp only [exec, execOscSetWaveform]
  refine ⟨oscCommand_reserved h, fun hr h7 => ?_, fun hr w hw => ?_, fun h7 => ?_⟩
  · have hcode : waveformOfCode (waveOperand c) = none := by rw [waveOperand, h7]; rfl
    exact oscCommand_violation h hr (by rw [hcode])
  · have hcode : waveformOfCode (waveOperand c) = some w := by rw [waveOperand, waveformOfCode_eq, hw]
    exact oscCommand_ok h hr (by rw [hcode])
  · bv_omega

/-- Settles O46: the frequency by its range check, the note by the size of the table. -/
theorem oscSetPitchResult : Obligations.OscSetPitchResult := by
  intro c s V o h
  simp only [exec, execOscSetFrequency, execOscSetMidiNote]
  exact ⟨oscCommand_reserved h,
    fun hr hP => oscCommand_violation h hr (checked_of_not_legal f32FinitePositive_iff_finiteWith hP _),
    fun hr hP => oscCommand_ok h hr (checked_of_legal f32FinitePositive_iff_finiteWith hP _),
    oscCommand_reserved h,
    fun hr hn => oscCommand_ok h hr (if_pos hn),
    fun hr hn => oscCommand_keeps h hr (if_neg (not_lt.mpr hn))⟩

/-- Rounding commutes with the sign of a nonzero rational (R17). -/
theorem rnd32_neg {q : Rat} (hq : q ≠ 0) : rnd32 (-q) = rnd32 q ^^^ 0x80000000#32 := by
  refine eq_of_msb_of_magnitudeBits ?_ ?_
  · rw [BitVec.msb_xor, msb_rnd32, msb_rnd32, show (0x80000000#32).msb = true from rfl, Bool.xor_true]
    rcases lt_or_gt_of_ne hq with h | h <;> simp [h, h.le]
  · have hmask : magnitudeBits (rnd32 q ^^^ 0x80000000#32) = magnitudeBits (rnd32 q) := by
      rw [magnitudeBits, BitVec.toNat_xor, Nat.xor_mod_two_pow, show (0x80000000#32).toNat % 2 ^ 31 = 0 by decide,
        Nat.xor_zero, magnitudeBits]
    rw [hmask, magnitudeBits_rnd32, magnitudeBits_rnd32, Rat.num_neg_eq_neg_num, Rat.den_neg_eq_den, Int.natAbs_neg]

/-- Settles O47: the detune and the octave by their range checks, and the sign of a rounded zero by evaluation. -/
theorem oscSetDetuneOctaveResult : Obligations.OscSetDetuneOctaveResult := by
  refine ⟨⟨by decide +kernel, by decide +kernel, by decide +kernel, by decide +kernel, by decide +kernel,
    fun _ => rnd32_neg⟩, fun c s V o h => ?_⟩
  have hoctave : (decide (-3 ≤ c.operand.toInt) && decide (c.operand.toInt ≤ 2)) = true ↔
      -3 ≤ c.operand.toInt ∧ c.operand.toInt ≤ 2 := by simp
  simp only [exec, execOscSetDetune, execOscSetOctave]
  exact ⟨oscCommand_reserved h,
    fun hr hP => oscCommand_violation h hr (checked_of_not_legal f32Within_iff_finiteWith hP _),
    fun hr hP => oscCommand_ok h hr (checked_of_legal f32Within_iff_finiteWith hP _),
    oscCommand_reserved h,
    fun hr hP => oscCommand_violation h hr (checked_of_not_legal hoctave hP _),
    fun hr hP => oscCommand_ok h hr (checked_of_legal hoctave hP _)⟩

/-- Settles O48: the depth by its range check, the seed by being nonzero. -/
theorem oscSetDepthSeedResult : Obligations.OscSetDepthSeedResult := by
  intro c s V o h
  simp only [exec, execOscSetModDepth, execOscSetSeed]
  exact ⟨oscCommand_reserved h,
    fun hr hP => oscCommand_violation h hr (checked_of_not_legal f32Within_iff_finiteWith hP _),
    fun hr hP => oscCommand_ok h hr (checked_of_legal f32Within_iff_finiteWith hP _),
    oscCommand_reserved h,
    fun hr h0 => oscCommand_violation h hr (checked_of_not_legal bne_iff_ne (not_not.mpr h0) _),
    fun hr h0 => oscCommand_ok h hr (checked_of_legal bne_iff_ne h0 _)⟩

/-- LFO_VCO modulates the two VCOs, and nothing modulates an LFO (R41). -/
theorem modulatorOf_eq (V : Voice) (o : OscId) :
    modulatorOf V o = if o = .vco1 ∨ o = .vco2 then some V.lfoVco.out else none := by
  cases o <;> rfl

/-- Settles O49: the advance is one step with the unit's modulator, the read a rule that keeps the unit. -/
theorem oscAdvanceReadResult : Obligations.OscAdvanceReadResult := by
  intro c s V o h
  have hadvance := voiceCommand_of_reached h (show selectOsc (.osc o) = some o from rfl) .none
    fun o V => .ok (V.setOsc o (oscStep s.params (V.osc o) (modulatorOf V o))) 0#32
  simp only [exec, execOscAdvance, execOscRead]
  refine ⟨fun hr => hadvance.trans (if_pos hr), fun hr => hadvance.trans ?_, oscCommand_reserved h,
    fun hr => oscCommand_keeps h hr rfl⟩
  rw [hr, if_neg Bool.false_ne_true, modulatorOf_eq]

end Sys2Proof.Machine
end

section
/-! PROOFS. The results of the VOICE_ commands (R191 to R195, R204 to R206): each command that reaches its voice is its
rule on it. -/

namespace Sys2Proof.Machine

section
variable {α : Type} {u : UnitId} {c : CommandFields} {s : State} {V : Voice} {select : UnitId → Option α} {a : α}
  {fmt : OperandFormat} {rule : α → Voice → Reply Voice}

/-- A reserved bit rejects a command that reaches its voice (R333). -/
theorem voiceCommand_reserved (h : VoiceReached u c s V) (ha : select u = some a) (hr : reservedBitsSet fmt c = true) :
    voiceCommand select fmt c s rule = .next (s.rejected .reservedBits) := by
  rw [voiceCommand_of_reached h ha, if_pos hr]

/-- An operand outside the contract rejects (R331). -/
theorem voiceCommand_violation (h : VoiceReached u c s V) (ha : select u = some a)
    (hr : reservedBitsSet fmt c = false) (hrule : rule a V = .violation) :
    voiceCommand select fmt c s rule = .next (s.rejected .contractViolation) := by
  rw [voiceCommand_of_reached h ha, if_neg (by rw [hr]; decide), hrule]

/-- A legal command stores the new voice and answers. -/
theorem voiceCommand_ok {W : Voice} {data : BitVec 32} (h : VoiceReached u c s V) (ha : select u = some a)
    (hr : reservedBitsSet fmt c = false) (hrule : rule a V = .ok W data) :
    voiceCommand select fmt c s rule = .next (s.voiceAnswered c W .ok data) := by
  rw [voiceCommand_of_reached h ha, if_neg (by rw [hr]; decide), hrule]

end

/-- Unit 10 is the voice (R110). -/
theorem selectVoice_voice : selectVoice .voice = some () := rfl

section
variable {c : CommandFields} {s : State} {V : Voice}

theorem exec_voiceNoteOff (h : VoiceReached .voice c s V) (hr : reservedBitsSet .none c = false) :
    exec (.voiceNoteOff c) s = .next (s.voiceAnswered c (voiceNoteOffEffect V) .ok 0#32) := by
  simp only [exec, execVoiceNoteOff]
  exact voiceCommand_ok h selectVoice_voice hr rfl

theorem exec_voiceAdvance (h : VoiceReached .voice c s V) (hr : reservedBitsSet .none c = false) :
    exec (.voiceAdvance c) s = .next (s.voiceAnswered c (voiceStep s.params V) .ok 0#32) := by
  simp only [exec, execVoiceAdvance]
  exact voiceCommand_ok h selectVoice_voice hr rfl

theorem exec_voiceRead (h : VoiceReached .voice c s V) (hr : reservedBitsSet .none c = false) :
    exec (.voiceRead c) s = .next (s.voiceAnswered c V .ok V.vca.out) := by
  simp only [exec, execVoiceRead]
  exact voiceCommand_ok h selectVoice_voice hr rfl

theorem exec_voiceState (h : VoiceReached .voice c s V) (hr : reservedBitsSet .none c = false) :
    exec (.voiceState c) s = .next (s.voiceAnswered c V .ok (voiceStateData V)) := by
  simp only [exec, execVoiceState]
  exact voiceCommand_ok h selectVoice_voice hr rfl

theorem exec_voiceKey (h : VoiceReached .voice c s V) (hr : reservedBitsSet .none c = false) :
    exec (.voiceKey c) s = .next (s.voiceAnswered c V .ok (voiceKeyData V)) := by
  simp only [exec, execVoiceKey]
  exact voiceCommand_ok h selectVoice_voice hr rfl

end

theorem voiceStateData_eq (V : Voice) :
    voiceStateData V =
      if V.egVca.state = .idle then 0#32 else if V.egVca.state = .release then 2#32 else 1#32 := by
  rw [voiceStateData]
  cases V.egVca.state <;> rfl

theorem voiceKeyData_eq (V : Voice) :
    voiceKeyData V = if V.egVca.state ≠ .idle then V.key.setWidth 32 else 0xFF#32 := by
  rw [voiceKeyData]
  cases V.egVca.state <;> rfl

/-- Settles O55: the rule of each command, with the two derived words by the state of EG_VCA. -/
theorem voiceCommandsResult : Obligations.VoiceCommandsResult := by
  intro c s V h
  rw [← voiceStateData_eq, ← voiceKeyData_eq]
  simp only [exec, execVoiceNoteOff, execVoiceAdvance, execVoiceRead, execVoiceState, execVoiceKey]
  exact ⟨voiceCommand_reserved h selectVoice_voice, exec_voiceNoteOff h,
    voiceCommand_reserved h selectVoice_voice, exec_voiceAdvance h,
    voiceCommand_reserved h selectVoice_voice, exec_voiceRead h,
    voiceCommand_reserved h selectVoice_voice, exec_voiceState h,
    voiceCommand_reserved h selectVoice_voice, exec_voiceKey h⟩

/-- VOICE_STATE reads Idle exactly when EG_VCA is Idle (R204). -/
theorem voiceStateData_eq_zero_iff {V : Voice} : voiceStateData V = 0#32 ↔ V.egVca.state = .idle := by
  rw [voiceStateData]
  cases V.egVca.state <;> decide

/-- No key is read from an Idle voice (R205). -/
theorem voiceKeyData_of_idle {V : Voice} (h : V.egVca.state = .idle) : voiceKeyData V = 0xFF#32 := by
  rw [voiceKeyData, h]

/-- No legal key is the word NONE, so VOICE_KEY reads NONE exactly when EG_VCA is Idle (R205). -/
theorem voiceKeyData_eq_none_iff {V : Voice} (hkey : V.key.toNat ≤ 127) :
    voiceKeyData V = 0xFF#32 ↔ V.egVca.state = .idle := by
  have hne : V.key.setWidth 32 ≠ 0xFF#32 := by bv_omega
  rw [voiceKeyData_eq]
  split
  · exact iff_of_false hne ‹_›
  · exact iff_of_true rfl (not_not.mp ‹_›)

/-- Settles O39: both words say whether EG_VCA is Idle. -/
theorem voiceFree : Obligations.VoiceFree := fun _ _ _ h hr hkey =>
  ⟨_, _, exec_voiceKey h hr, exec_voiceState h hr,
    (voiceKeyData_eq_none_iff hkey).trans voiceStateData_eq_zero_iff.symm⟩

/-- A key below 108 sets the pitch from the note table (R192). -/
theorem setPitch_of_lt (p : Params) {key : Nat} (h : key < 108) (o : Osc) :
    setPitch p key o =
      { o with base := memReadNote p key, eff := effOf p (memReadNote p key) o.detune o.octave } := if_pos h

/-- A key of 108 or more keeps the pitch (R192). -/
theorem setPitch_of_le (p : Params) {key : Nat} (h : 108 ≤ key) (o : Osc) : setPitch p key o = o :=
  if_neg (not_lt.mpr h)

theorem velLevel_one : velLevel 1 = 0x3C010204#32 := by decide +kernel
theorem velLevel_hundred : velLevel 100 = 0x3F499326#32 := by decide +kernel
theorem velLevel_max : velLevel 127 = 0x3F800000#32 := by decide +kernel

/-- The level of a legal velocity lies between those of velocities 1 and 127 (R191). -/
theorem velLevel_mem {vel : Nat} (h1 : 1 ≤ vel) (h127 : vel ≤ 127) :
    FiniteWith (velLevel vel) fun q => 0 < q ∧ q ≤ 1 := by
  have hbound {n : Nat} (hn : n ≤ 127) : |(n : Rat) / 127| < overflowBound := by
    have hn' : (n : Rat) ≤ 127 := by exact_mod_cast hn
    have hle : (n : Rat) / 127 ≤ 1 := (div_le_one (by norm_num)).mpr hn'
    rw [abs_of_nonneg (by positivity)]
    exact hle.trans_lt (by norm_num [overflowBound])
  have hmono {m n : Nat} (hn : n ≤ 127) (hmn : m ≤ n) : val (velLevel m) ≤ val (velLevel n) :=
    val_rnd32_mono (hbound (hmn.trans hn)) (hbound hn) (by gcongr)
  have hlow : 0 < val (velLevel 1) := by rw [velLevel_one]; decide +kernel
  have hhigh : val (velLevel 127) = 1 := by rw [velLevel_max]; exact val_plusOne
  exact finiteWith_iff.mpr ⟨f32Finite_rnd32 (hbound h127), hlow.trans_le (hmono h127 h1),
    (hmono le_rfl h127).trans_eq hhigh⟩

/-- The operands of VOICE_NOTE_ON that R192 accepts. -/
theorem voiceNoteOn_legal_iff {key vel : Nat} :
    (decide (key ≤ 127) && decide (vel ≠ 0) && decide (vel ≤ 127)) = true ↔
      ¬(127 < key ∨ vel = 0 ∨ 127 < vel) := by
  simp only [Bool.and_eq_true, decide_eq_true_eq]
  omega

/-- Settles O54: the operands by their range check, the pitch by the key, and the level by the order of velocities. -/
theorem voiceNoteOnResult : Obligations.VoiceNoteOnResult := by
  intro c s V h key vel peak note W
  have heffect (hr : reservedBitsSet .keyvel c = false)
      (hlegal : ¬(127 < key.toNat ∨ vel.toNat = 0 ∨ 127 < vel.toNat)) :
      exec (.voiceNoteOn c) s = .next (s.voiceAnswered c (voiceNoteOnEffect s.params key vel V) .ok 0#32) :=
    voiceCommand_ok h selectVoice_voice hr (checked_of_legal voiceNoteOn_legal_iff hlegal _)
  refine ⟨voiceCommand_reserved h selectVoice_voice, fun hr hbad => ?_, fun hr hkey hv1 hv127 => ?_,
    fun hr hkey hkey' hv1 hv127 => ?_, velLevel_mem, fun hv => ?_, fun hv => ?_, fun hv => ?_⟩
  · exact voiceCommand_violation h selectVoice_voice hr
      (checked_of_not_legal voiceNoteOn_legal_iff (not_not.mpr hbad) _)
  · rw [heffect hr (by omega), voiceNoteOnEffect, setPitch_of_lt _ hkey, setPitch_of_lt _ hkey]
    rfl
  · rw [heffect hr (by omega), voiceNoteOnEffect, setPitch_of_le _ hkey, setPitch_of_le _ hkey]
    rfl
  · exact (congrArg velLevel hv).trans velLevel_max
  · exact (congrArg velLevel hv).trans velLevel_hundred
  · exact (congrArg velLevel hv).trans velLevel_one

end Sys2Proof.Machine
end

section
/-! PROOFS. Commands issued to one voice, as triples that compose: from voice V they answer a list of responses and
leave voice W, and the rest of the state is as it was (R53, R71). -/

namespace Sys2Proof.Machine

/-- Issued on APORT to a block with the parameters p and voice V at place k, the commands all complete: they answer rs,
leave W in place of V, and change nothing else but the pending interactions and the port latch. -/
def VoiceRuns (p : Params) (k : Nat) (l : List Instr) (V W : Voice) (rs : List Response) : Prop :=
  ∀ (s : State) (rest : List HostInput) (n : Nat), s.params = p → s.voices[k]? = some V →
    s.inputs = issueOn .aport l ++ rest →
    ∃ q : Port, core.run (l.length + n) s =
      core.run n { s with voices := s.voices.set k W, inputs := rest, port := q, aportOut := s.aportOut ++ rs }

section
variable {p : Params} {k : Nat} {l l' : List Instr} {V W X : Voice} {rs rs' : List Response}

theorem VoiceRuns.nil (p : Params) (k : Nat) (V : Voice) : VoiceRuns p k [] V V [] := by
  intro s rest n _ hV hin
  refine ⟨s.port, ?_⟩
  have hset : s.voices.set k V = s.voices := by
    obtain ⟨hk, rfl⟩ := List.getElem?_eq_some_iff.mp hV
    exact List.set_getElem_self hk
  have hrest : rest = s.inputs := hin.symm
  rw [hset, hrest, List.append_nil, List.length_nil, zero_add]

/-- What the first commands leave is what the next ones start from. -/
theorem VoiceRuns.append (h : VoiceRuns p k l V W rs) (h' : VoiceRuns p k l' W X rs') :
    VoiceRuns p k (l ++ l') V X (rs ++ rs') := by
  intro s rest n hp hV hin
  have hk : k < s.voices.length := (List.getElem?_eq_some_iff.mp hV).1
  obtain ⟨q, hrun⟩ := h s (issueOn .aport l' ++ rest) (l'.length + n) hp hV
    (by rw [hin, issueOn, List.map_append, List.append_assoc]; rfl)
  obtain ⟨q', hrun'⟩ := h' { s with
    voices := s.voices.set k W, inputs := issueOn .aport l' ++ rest, port := q, aportOut := s.aportOut ++ rs }
    rest n hp (List.getElem?_set_self hk) rfl
  refine ⟨q', ?_⟩
  rw [List.length_append, add_assoc, hrun, hrun', List.set_set, List.append_assoc]

/-- A command issued n times applies its effect n times. -/
theorem VoiceRuns.replicate {i : Instr} {f : Voice → Voice} {r : Response} (h : ∀ V, VoiceRuns p k [i] V (f V) [r])
    (n : Nat) (V : Voice) : VoiceRuns p k (List.replicate n i) V (f^[n] V) (List.replicate n r) := by
  induction n generalizing V with
  | zero => exact .nil p k V
  | succ n ih => exact (h V).append (ih (f V))

/-- A whole program from a given state. -/
theorem VoiceRuns.run (s : State) (h : VoiceRuns s.params k l V W rs) (hV : s.voices[k]? = some V) :
    ∃ q : Port, core.run l.length ({ s with inputs := issueOn .aport l } : State) =
      .next { s with voices := s.voices.set k W, inputs := [], port := q, aportOut := s.aportOut ++ rs } :=
  h { s with inputs := issueOn .aport l } [] 0 rfl hV (List.append_nil _).symm

end

theorem unitOfCode_unitCode (u : UnitId) : unitOfCode (unitCode u) = some u := by
  rcases u with (_ | _ | _ | _ | _) | (_ | _) | _ | _ | _ | _ | _ <;> rfl

/-- A well-formed command on APORT reaches its unit of a voice that is there. -/
theorem voiceReached_fieldsFor {s : State} {v : BitVec 8} {V : Voice} {u : UnitId} (hu : u ≠ .dec)
    (hport : s.port = .aport) (hV : s.voices[v.toNat]? = some V) (operand : BitVec 32) :
    VoiceReached u (fieldsFor v u operand) s V := ⟨unitOfCode_unitCode u, hu, hport, hV⟩

theorem reservedBitsSet_fieldsFor (v : BitVec 8) (u : UnitId) : reservedBitsSet .none (fieldsFor v u 0#32) = false := by
  simp [reservedBitsSet, fieldsFor]

/-- One command: what `exec` answers when the command reaches its unit is what the run does. -/
theorem voiceRuns_singleton {p : Params} {v : BitVec 8} {u : UnitId} {operand : BitVec 32} {i : Instr} {V W : Voice}
    {d : BitVec 32} (hu : u ≠ .dec)
    (hexec : ∀ s : State, s.params = p → VoiceReached u (fieldsFor v u operand) s V →
      exec i s = .next (s.voiceAnswered (fieldsFor v u operand) W .ok d)) :
    VoiceRuns p v.toNat [i] V W [⟨.ok, d⟩] := by
  intro s rest n hp hV hin
  have hstep : step s = exec i (s.accept .aport rest) := by
    rw [step_command (rest := rest) hin, execWord, decode_encode]
  have hreached : VoiceReached u (fieldsFor v u operand) (s.accept .aport rest) V :=
    voiceReached_fieldsFor (s := s.accept .aport rest) hu rfl hV operand
  rw [hexec (s.accept .aport rest) hp hreached] at hstep
  refine ⟨.aport, ?_⟩
  rw [List.length_singleton, add_comm, core_run_succ hstep]
  rfl

end Sys2Proof.Machine
end

section
/-! PROOFS. After note-off a voice comes to rest (R207): every release step counts one sample, and the segment ends at
`segLen` of them. -/

namespace Sys2Proof.Machine

/-- The envelope generator is Idle after n more steps: it is so already, or in a release with at most n samples left. -/
def EgIdleWithin (p : Params) (e : Eg) (n : Nat) : Prop :=
  e.state = .idle ∨ (e.state = .release ∧ 0 < n ∧ segLen p e.release ≤ e.segCount.toNat + n)

theorem segLen_pos (p : Params) (t : F32) : 0 < segLen p t := le_clampNat (by decide) _

theorem segLen_le_maxU32 (p : Params) (t : F32) : segLen p t ≤ maxU32 := clampNat_le (by decide) _

theorem egStep_idle_state {p : Params} {e : Eg} (h : e.state = .idle) : (egStep p e).state = .idle := by
  rw [egStep, h]

theorem egStep_of_release {p : Params} {e : Eg} (h : e.state = .release) : egStep p e = egReleaseStep p e := by
  rw [egStep, h]

/-- The last sample of a release ends in Idle (R235). -/
theorem egStep_release_end {p : Params} {e : Eg} (h : e.state = .release) (hlen : segLen p e.release ≤ segAdvance e) :
    egStep p e = { e with level := plusZero, state := .idle, segCount := 0#32 } :=
  (egStep_of_release h).trans (if_pos hlen)

/-- Any other sample of a release counts (R235). -/
theorem egStep_release_count {p : Params} {e : Eg} (h : e.state = .release) (hlen : segAdvance e < segLen p e.release) :
    egStep p e = { e with
      segCount := BitVec.ofNat 32 (segAdvance e)
      level := rnd32 (val e.segStart * (1 - (segAdvance e : Rat) / (segLen p e.release : Rat))) } :=
  (egStep_of_release h).trans (if_neg (not_le.mpr hlen))

/-- Every step brings the end of the release one sample nearer. -/
theorem EgIdleWithin.step {p : Params} {e : Eg} {n : Nat} (h : EgIdleWithin p e (n + 1)) :
    EgIdleWithin p (egStep p e) n := by
  obtain hidle | ⟨hrel, -, hlen⟩ := h
  · exact .inl (egStep_idle_state hidle)
  · rcases le_or_gt (segLen p e.release) (segAdvance e) with hend | hcount
    · exact .inl (by rw [egStep_release_end hrel hend])
    · have hmax := segLen_le_maxU32 p e.release
      have hadv : segAdvance e = e.segCount.toNat + 1 := by rw [segAdvance] at hcount ⊢; omega
      have hnat : (BitVec.ofNat 32 (segAdvance e)).toNat = e.segCount.toNat + 1 := by
        rw [BitVec.toNat_ofNat, hadv]
        rw [maxU32] at hmax
        omega
      rw [egStep_release_count hrel hcount]
      exact .inr ⟨hrel, by omega, by dsimp only; omega⟩

theorem EgIdleWithin.iterate {p : Params} {e : Eg} {n : Nat} (h : EgIdleWithin p e n) :
    ((egStep p)^[n] e).state = .idle := by
  induction n generalizing e with
  | zero => exact h.resolve_right fun ⟨_, hpos, _⟩ => absurd hpos (lt_irrefl 0)
  | succ n ih => exact ih h.step

/-- After note-off a whole release is left. -/
theorem egIdleWithin_egNoteOff {p : Params} {e : Eg} {n : Nat} (h : segLen p e.release ≤ n) :
    EgIdleWithin p (egNoteOff e) n :=
  .inr ⟨rfl, (segLen_pos p e.release).trans_le h, h.trans (Nat.le_add_left n _)⟩

/-- In the graph of a voice nothing but its own step reaches EG_VCA (R202). -/
@[simp] theorem voiceStep_egVca (p : Params) (V : Voice) : (voiceStep p V).egVca = egStep p V.egVca := by
  rw [voiceStep, stepVca_egVca, stepEgVca]
  simp

theorem voiceStep_iterate_egVca (p : Params) (V : Voice) (n : Nat) :
    ((voiceStep p)^[n] V).egVca = (egStep p)^[n] V.egVca := by
  induction n generalizing V with
  | zero => rfl
  | succ n ih => rw [Function.iterate_succ_apply, ih, voiceStep_egVca, Function.iterate_succ_apply]

/-- Settles O38: note-off leaves a whole release of EG_VCA, the advances use it up, and the two reads see Idle. -/
theorem returnToIdle : Obligations.ReturnToIdle := by
  intro s v V k hV hlen program
  have hvoice : UnitId.voice ≠ .dec := by decide
  have hreserved := reservedBitsSet_fieldsFor v .voice
  set W := (voiceStep s.params)^[k] (voiceNoteOffEffect V) with hW
  have hidle : W.egVca.state = .idle := by
    rw [hW, voiceStep_iterate_egVca]
    exact (egIdleWithin_egNoteOff hlen).iterate
  have hoff : VoiceRuns s.params v.toNat [.voiceNoteOff (fieldsFor v .voice 0#32)] V (voiceNoteOffEffect V)
      [⟨.ok, 0#32⟩] :=
    voiceRuns_singleton hvoice fun _ _ h => exec_voiceNoteOff h hreserved
  have hadvance : VoiceRuns s.params v.toNat (List.replicate k (.voiceAdvance (fieldsFor v .voice 0#32)))
      (voiceNoteOffEffect V) W (List.replicate k ⟨.ok, 0#32⟩) :=
    .replicate (fun _ => voiceRuns_singleton hvoice fun _ hp h => hp ▸ exec_voiceAdvance h hreserved) k _
  have hstate : VoiceRuns s.params v.toNat [.voiceState (fieldsFor v .voice 0#32)] W W [⟨.ok, 0#32⟩] :=
    voiceRuns_singleton hvoice fun _ _ h => voiceStateData_eq_zero_iff.mpr hidle ▸ exec_voiceState h hreserved
  have hkey : VoiceRuns s.params v.toNat [.voiceKey (fieldsFor v .voice 0#32)] W W [⟨.ok, 0xFF#32⟩] :=
    voiceRuns_singleton hvoice fun _ _ h => voiceKeyData_of_idle hidle ▸ exec_voiceKey h hreserved
  obtain ⟨q, hrun⟩ := ((hoff.append hadvance).append (hstate.append hkey)).run s hV
  have hlength : program.length = k + 3 := by simp [program]
  exact ⟨_, hlength ▸ hrun, (List.append_assoc _ _ _).symm⟩

end Sys2Proof.Machine
end

section
/-! PROOFS. The envelope step (R231 to R235) and its transitions (R237): one equation for each arm of the step, and one
for each side of a segment's end. -/

namespace Sys2Proof.Machine

section
variable {p : Params} {e : Eg}

theorem egStep_of_idle (h : e.state = .idle) : egStep p e = { e with level := plusZero } := by
  rw [egStep, h]

theorem egStep_of_attack (h : e.state = .attack) : egStep p e = egAttackStep p e := by
  rw [egStep, h]

theorem egStep_of_decay (h : e.state = .decay) : egStep p e = egDecayStep p e := by
  rw [egStep, h]

theorem egStep_of_sustain (h : e.state = .sustain) : egStep p e = egSustainStep e := by
  rw [egStep, h]

/-- The last sample of an attack ends at the peak, where the decay begins (R232). -/
theorem egStep_attack_end (h : e.state = .attack) (hlen : segLen p e.attack ≤ segAdvance e) :
    egStep p e = { e with level := e.peak, state := .decay, segStart := e.peak, segCount := 0#32 } :=
  (egStep_of_attack h).trans (if_pos hlen)

/-- Any other sample of an attack counts (R232). -/
theorem egStep_attack_count (h : e.state = .attack) (hlen : segAdvance e < segLen p e.attack) :
    egStep p e = { e with
      segCount := BitVec.ofNat 32 (segAdvance e)
      level := rnd32 (linePoint (val e.segStart) (val e.peak) (segAdvance e) (segLen p e.attack)) } :=
  (egStep_of_attack h).trans (if_neg (not_le.mpr hlen))

/-- The last sample of a decay ends at the sustain level (R233). -/
theorem egStep_decay_end (h : e.state = .decay) (hlen : segLen p e.decay ≤ segAdvance e) :
    egStep p e = { e with level := rnd32 (val e.sustain * val e.peak), state := .sustain, segCount := 0#32 } :=
  (egStep_of_decay h).trans (if_pos hlen)

/-- Any other sample of a decay counts (R233). -/
theorem egStep_decay_count (h : e.state = .decay) (hlen : segAdvance e < segLen p e.decay) :
    egStep p e = { e with
      segCount := BitVec.ofNat 32 (segAdvance e)
      level := rnd32
        (linePoint (val e.segStart) (val e.sustain * val e.peak) (segAdvance e) (segLen p e.decay)) } :=
  (egStep_of_decay h).trans (if_neg (not_le.mpr hlen))

/-- The saturation of SEG_COUNT does not reach a segment's end: no segment is longer than the counter (R222, R231). -/
theorem segLen_le_segAdvance_iff {t : F32} : segLen p t ≤ segAdvance e ↔ segLen p t ≤ e.segCount.toNat + 1 := by
  rw [segAdvance, le_min_iff]
  exact and_iff_left (segLen_le_maxU32 p t)

theorem egAttackStep_state :
    (egAttackStep p e).state = if segLen p e.attack ≤ e.segCount.toNat + 1 then .decay else e.state := by
  simp only [egAttackStep, segLen_le_segAdvance_iff, apply_ite Eg.state]

theorem egDecayStep_state :
    (egDecayStep p e).state = if segLen p e.decay ≤ e.segCount.toNat + 1 then .sustain else e.state := by
  simp only [egDecayStep, segLen_le_segAdvance_iff, apply_ite Eg.state]

theorem egReleaseStep_state :
    (egReleaseStep p e).state = if segLen p e.release ≤ e.segCount.toNat + 1 then .idle else e.state := by
  simp only [egReleaseStep, segLen_le_segAdvance_iff, apply_ite Eg.state]

end

/-- Settles O31: the equations of the five arms. -/
theorem egStepRule : Obligations.EgStepRule := fun _ _ =>
  ⟨egStep_of_idle, egStep_attack_end, egStep_attack_count, egStep_decay_end, egStep_decay_count, egStep_of_sustain,
    egStep_release_end, egStep_release_count⟩

/-- Settles O32: the state after each arm of the step. -/
theorem egTransitionTable : Obligations.EgTransitionTable := by
  intro p e
  refine ⟨fun _ => rfl, rfl, egStep_idle_state, fun h => ?attack, fun h => ?decay, fun h => ?sustain, fun h => ?release⟩
  case attack => rw [egStep_of_attack h, egAttackStep_state, h]
  case decay => rw [egStep_of_decay h, egDecayStep_state, h]
  case sustain => rw [egStep_of_sustain h, egSustainStep, h]
  case release => rw [egStep_of_release h, egReleaseStep_state, h]

end Sys2Proof.Machine
end

section
/-! PROOFS. The segments of the envelope in time (R238): attack, decay and release differ in their length, their line and
their end, and one induction over the samples serves all three. -/

namespace Sys2Proof.Machine

/-- The generator n samples into the segment that begins with x and runs on a given line. -/
def Eg.atSample (x : Eg) (line : Nat → F32) (n : Nat) : Eg :=
  { x with segCount := BitVec.ofNat 32 n, level := if n = 0 then x.level else line n }

/-- From every sample of the segment that begins with x, a step goes on along the line, or ends in `last` once it has
counted `segLen` of the time t. -/
def IsSegment (p : Params) (x : Eg) (t : F32) (line : Nat → F32) (last : Eg) : Prop :=
  ∀ n, let k := segAdvance (x.atSample line n)
    egStep p (x.atSample line n) =
      if segLen p t ≤ k then last else { x with segCount := BitVec.ofNat 32 k, level := line k }

section
variable {p : Params} {x : Eg} {t : F32} {line : Nat → F32} {last : Eg} {n : Nat}

theorem Eg.atSample_zero (h0 : x.segCount = 0#32) : x.atSample line 0 = x := by
  rw [Eg.atSample, if_pos rfl, ← h0]

theorem Eg.atSample_succ :
    x.atSample line (n + 1) = { x with segCount := BitVec.ofNat 32 (n + 1), level := line (n + 1) } := by
  rw [Eg.atSample, if_neg n.succ_ne_zero]

/-- SEG_COUNT holds the number of the sample: no segment is longer than the counter (R222). -/
theorem Eg.atSample_segCount_toNat (hn : n < segLen p t) : (x.atSample line n).segCount.toNat = n := by
  have hmax := segLen_le_maxU32 p t
  rw [maxU32] at hmax
  rw [Eg.atSample, BitVec.toNat_ofNat]
  exact Nat.mod_eq_of_lt (by omega)

theorem segAdvance_atSample (hn : n < segLen p t) : segAdvance (x.atSample line n) = n + 1 := by
  rw [segAdvance, Eg.atSample_segCount_toNat hn]
  exact min_eq_left (hn.trans_le (segLen_le_maxU32 p t))

/-- Before its end a segment has counted the samples and is on its line. -/
theorem IsSegment.iterate (h : IsSegment p x t line last) (h0 : x.segCount = 0#32) (hn : n < segLen p t) :
    (egStep p)^[n] x = x.atSample line n := by
  induction n with
  | zero => exact (Eg.atSample_zero h0).symm
  | succ n ih =>
    have hlt : n < segLen p t := n.lt_succ_self.trans hn
    rw [Function.iterate_succ_apply', ih hlt, h n, segAdvance_atSample hlt, if_neg (not_le.mpr hn), Eg.atSample_succ]

/-- On sample `segLen` the segment ends. -/
theorem IsSegment.iterate_segLen (h : IsSegment p x t line last) (h0 : x.segCount = 0#32) :
    (egStep p)^[segLen p t] x = last := by
  obtain ⟨m, hm⟩ := Nat.exists_eq_succ_of_ne_zero (segLen_pos p t).ne'
  have hlt : m < segLen p t := hm ▸ m.lt_succ_self
  rw [hm, Function.iterate_succ_apply', h.iterate h0 hlt, h m, segAdvance_atSample hlt, if_pos hm.le]

/-- What R238 says of the samples before the end. -/
theorem IsSegment.during (h : IsSegment p x t line last) (h0 : x.segCount = 0#32) (n : Nat) (hn : n < segLen p t) :
    ((egStep p)^[n] x).state = x.state ∧ ((egStep p)^[n] x).segCount.toNat = n ∧
      (0 < n → ((egStep p)^[n] x).level = line n) := by
  rw [h.iterate h0 hn]
  exact ⟨rfl, Eg.atSample_segCount_toNat hn, fun hpos => if_neg hpos.ne'⟩

theorem isSegment_of_attack (h : x.state = .attack) :
    IsSegment p x x.attack (fun n => rnd32 (linePoint (val x.segStart) (val x.peak) n (segLen p x.attack)))
      { x with level := x.peak, state := .decay, segStart := x.peak, segCount := 0#32 } :=
  fun _ => egStep_of_attack h

theorem isSegment_of_decay (h : x.state = .decay) :
    IsSegment p x x.decay
      (fun n => rnd32 (linePoint (val x.segStart) (val x.sustain * val x.peak) n (segLen p x.decay)))
      { x with level := rnd32 (val x.sustain * val x.peak), state := .sustain, segCount := 0#32 } :=
  fun _ => egStep_of_decay h

theorem isSegment_of_release (h : x.state = .release) :
    IsSegment p x x.release (fun n => rnd32 (val x.segStart * (1 - (n : Rat) / (segLen p x.release : Rat))))
      { x with level := plusZero, state := .idle, segCount := 0#32 } :=
  fun _ => egStep_of_release h

end

/-- Settles O33: note-on begins an attack, note-off a release, and each segment runs to its end. -/
theorem egDurations : Obligations.EgDurations := by
  intro p e v after on off
  have hattack := isSegment_of_attack (p := p) (x := on) rfl
  have hrelease := isSegment_of_release (p := p) (x := off) rfl
  have hattackEnd := hattack.iterate_segLen rfl
  have hreleaseEnd := hrelease.iterate_segLen rfl
  refine ⟨hattack.during rfl, congrArg Eg.state hattackEnd, congrArg Eg.level hattackEnd,
    congrArg Eg.segStart hattackEnd, congrArg Eg.segCount hattackEnd, fun hdecay h0 => ?_,
    hrelease.during rfl, congrArg Eg.state hreleaseEnd, congrArg Eg.level hreleaseEnd⟩
  have hsegment := isSegment_of_decay (p := p) hdecay
  have hend := hsegment.iterate_segLen h0
  exact ⟨hdecay ▸ hsegment.during h0, congrArg Eg.state hend, congrArg Eg.level hend⟩

end Sys2Proof.Machine
end

section
/-! PROOFS. The results of the EG_ commands (R223 to R230): each command that reaches its envelope generator is its rule
on it. -/

namespace Sys2Proof.Machine

section
variable {c : CommandFields} {s : State} {V : Voice} {e : EgId} {fmt : OperandFormat} {rule : Eg → Reply Eg}

/-- A reserved bit rejects a command that reaches its envelope generator (R333). -/
theorem egCommand_reserved (h : VoiceReached (.eg e) c s V) (hr : reservedBitsSet fmt c = true) :
    egCommand fmt c s rule = .next (s.rejected .reservedBits) :=
  (egCommand_of_reached h fmt rule).trans (if_pos hr)

/-- An operand outside the contract rejects (R331). -/
theorem egCommand_violation (h : VoiceReached (.eg e) c s V) (hr : reservedBitsSet fmt c = false)
    (hrule : rule (V.eg e) = .violation) : egCommand fmt c s rule = .next (s.rejected .contractViolation) := by
  rw [egCommand_of_reached h, if_neg (by rw [hr]; decide), hrule]

/-- A legal command stores the new envelope generator and answers. -/
theorem egCommand_ok {x : Eg} {data : BitVec 32} (h : VoiceReached (.eg e) c s V)
    (hr : reservedBitsSet fmt c = false) (hrule : rule (V.eg e) = .ok x data) :
    egCommand fmt c s rule = .next (s.voiceAnswered c (V.setEg e x) .ok data) := by
  rw [egCommand_of_reached h, if_neg (by rw [hr]; decide), hrule]

/-- A rule that stores `new` after a range check, as the three outcomes of the statements. -/
theorem egCommand_checked {legal : Bool} {P : Prop} {new : Eg → Eg} (hiff : legal = true ↔ P)
    (h : VoiceReached (.eg e) c s V) :
    (reservedBitsSet fmt c = true →
      egCommand fmt c s (fun x => checked legal (new x)) = .next (s.rejected .reservedBits)) ∧
    (reservedBitsSet fmt c = false → ¬P →
      egCommand fmt c s (fun x => checked legal (new x)) = .next (s.rejected .contractViolation)) ∧
    (reservedBitsSet fmt c = false → P →
      egCommand fmt c s (fun x => checked legal (new x)) =
        .next (s.voiceAnswered c (V.setEg e (new (V.eg e))) .ok 0#32)) :=
  ⟨egCommand_reserved h, fun hr hP => egCommand_violation h hr (checked_of_not_legal hiff hP _),
    fun hr hP => egCommand_ok h hr (checked_of_legal hiff hP _)⟩

end

theorem f32FiniteNonneg_iff_finiteWith {w : F32} : f32FiniteNonneg w = true ↔ FiniteWith w fun q => 0 ≤ q := by
  rw [f32FiniteNonneg_iff, finiteWith_iff]

/-- Settles O50: the times and the sustain level by their range checks. -/
theorem egSettersResult : Obligations.EgSettersResult := by
  intro c s V e h
  obtain ⟨attackReserved, attackRejects, attackStores⟩ := egCommand_checked (fmt := .f32)
    (new := fun x => { x with attack := c.operand }) f32FiniteNonneg_iff_finiteWith h
  obtain ⟨decayReserved, decayRejects, decayStores⟩ := egCommand_checked (fmt := .f32)
    (new := fun x => { x with decay := c.operand }) f32FiniteNonneg_iff_finiteWith h
  obtain ⟨sustainReserved, sustainRejects, sustainStores⟩ := egCommand_checked (fmt := .f32)
    (new := fun x => { x with sustain := c.operand }) f32Within_iff_finiteWith h
  obtain ⟨releaseReserved, releaseRejects, releaseStores⟩ := egCommand_checked (fmt := .f32)
    (new := fun x => { x with release := c.operand }) f32FiniteNonneg_iff_finiteWith h
  exact ⟨attackReserved, attackRejects, attackStores, decayReserved, decayRejects, decayStores,
    sustainReserved, sustainRejects, sustainStores, releaseReserved, releaseRejects, releaseStores⟩

/-- Settles O51: note-on by its range check; note-off, advance and read are rules that always store. -/
theorem egNotesAdvanceReadResult : Obligations.EgNotesAdvanceReadResult := by
  intro c s V e h
  obtain ⟨onReserved, onRejects, onStores⟩ := egCommand_checked (fmt := .f32)
    (new := fun x => egNoteOn x c.operand) f32Within_iff_finiteWith h
  simp only [exec, execEgNoteOff, execEgAdvance, execEgRead]
  refine ⟨onReserved, onRejects, onStores, egCommand_reserved h, fun hr => egCommand_ok h hr rfl,
    egCommand_reserved h, fun hr => egCommand_ok h hr rfl, egCommand_reserved h, fun hr => ?read⟩
  case read => rw [egCommand_ok h hr rfl, Voice.setEg_eg_self]

end Sys2Proof.Machine
end

section
/-! PROOFS. The results of the VCF_ commands (R254 to R258): each command that reaches its filter is its rule on it. -/

namespace Sys2Proof.Machine

/-- Unit 7 is the filter (R110). -/
theorem selectVcf_vcf : selectVcf .vcf = some () := rfl

/-- A rule that stores `new` after a range check, as the three outcomes of the statements. -/
theorem vcfCommand_checked {c : CommandFields} {s : State} {V : Voice} {fmt : OperandFormat} {legal : Bool} {P : Prop}
    {new : Vcf → Vcf} (hiff : legal = true ↔ P) (h : VoiceReached .vcf c s V) :
    (reservedBitsSet fmt c = true →
      vcfCommand fmt c s (fun f => checked legal (new f)) = .next (s.rejected .reservedBits)) ∧
    (reservedBitsSet fmt c = false → ¬P →
      vcfCommand fmt c s (fun f => checked legal (new f)) = .next (s.rejected .contractViolation)) ∧
    (reservedBitsSet fmt c = false → P →
      vcfCommand fmt c s (fun f => checked legal (new f)) =
        .next (s.voiceAnswered c { V with vcf := new V.vcf } .ok 0#32)) := by
  refine ⟨voiceCommand_reserved h selectVcf_vcf, fun hr hP => ?outside, fun hr hP => ?inside⟩
  case outside => rw [vcfCommand_of_reached h, hr, if_neg Bool.false_ne_true, checked_of_not_legal hiff hP]
  case inside => rw [vcfCommand_of_reached h, hr, if_neg Bool.false_ne_true, checked_of_legal hiff hP]

/-- Settles O52: the setters by their range checks; the advance stores one step, and the read keeps the voice. -/
theorem vcfCommandsResult : Obligations.VcfCommandsResult := by
  intro c s V h
  obtain ⟨cutoffReserved, cutoffRejects, cutoffStores⟩ := vcfCommand_checked (fmt := .f32)
    (new := fun f => { f with cutoff := c.operand }) f32FinitePositive_iff_finiteWith h
  obtain ⟨resonanceReserved, resonanceRejects, resonanceStores⟩ := vcfCommand_checked (fmt := .f32)
    (new := fun f => { f with resonance := c.operand }) f32Within_iff_finiteWith h
  obtain ⟨modvolReserved, modvolRejects, modvolStores⟩ := vcfCommand_checked (fmt := .f32)
    (new := fun f => { f with modvol := c.operand }) f32Within_iff_finiteWith h
  simp only [exec, execVcfAdvance, execVcfRead]
  exact ⟨cutoffReserved, cutoffRejects, cutoffStores, resonanceReserved, resonanceRejects, resonanceStores,
    modvolReserved, modvolRejects, modvolStores,
    voiceCommand_reserved h selectVcf_vcf, fun hr => voiceCommand_ok h selectVcf_vcf hr rfl,
    voiceCommand_reserved h selectVcf_vcf, fun hr => voiceCommand_ok h selectVcf_vcf hr rfl⟩

end Sys2Proof.Machine
end

section
/-! PROOFS. The amplifier and the mixer: the ranges of R275 and R283, and the results of the VCA_ and MIX_ commands
(R271 to R274, R280 to R282). -/

namespace Sys2Proof.Machine

/-- Rounding does not pass the magnitude of a word: that word is on the grid on which the nearest is taken. -/
theorem RoundsTo.le_quanta {y : Rat} {k n : Nat} (h : RoundsTo y k n) {v : F32} (hy : y ≤ quanta (magnitudeBits v)) :
    (n : Rat) * 2 ^ k ≤ quanta (magnitudeBits v) := by
  have hz : (quanta (magnitudeBits v) : Int) = signedQuanta v ∨ (quanta (magnitudeBits v) : Int) = -signedQuanta v := by
    rw [signedQuanta]
    split
    · exact .inr (neg_neg _).symm
    · exact .inl rfl
  have hnear := (h.nearest_signedQuanta v hz).1
  rw [Int.cast_natCast, abs_sub_comm, abs_sub_comm y (quanta _), abs_of_nonneg (sub_nonneg.mpr hy)] at hnear
  exact (sub_le_sub_iff_right y).mp ((le_abs_self _).trans hnear)

/-- The magnitude of a finite word bounds the rounded words of the rationals within it (R17). -/
theorem abs_val_rnd32_le {q : Rat} {v : F32} (hv : f32Finite v = true) (h : |q| ≤ |val v|) :
    |val (rnd32 q)| ≤ |val v| := by
  have hbound : |q| < overflowBound := h.trans_lt (abs_val_lt_overflowBound hv)
  obtain ⟨k, n, hround, -, hbits, -⟩ := rnd32_roundsTo hbound
  have hpos : (0 : Rat) < 2 ^ 149 := by positivity
  rw [abs_val hv, le_div_iff₀ hpos] at h
  rw [abs_val hv, abs_val (f32Finite_rnd32 hbound), hbits, hround.quanta_eq, div_le_div_iff_of_pos_right hpos]
  exact_mod_cast hround.le_quanta h

/-- Such a rounded word is finite. -/
theorem finiteWith_rnd32_abs_le {q : Rat} {v : F32} (hv : f32Finite v = true) (h : |q| ≤ |val v|) :
    FiniteWith (rnd32 q) fun r => |r| ≤ |val v| :=
  finiteWith_iff.mpr ⟨f32Finite_rnd32 (h.trans_lt (abs_val_lt_overflowBound hv)), abs_val_rnd32_le hv h⟩

section
variable {a : Vca} {x l e : F32}

/-- OUT is the input times the gain, rounded once (R274). -/
theorem vcaStep_out : (vcaStep a x l e).out = rnd32 (val x * (val e * lfoGain a.modvol l)) :=
  congrArg rnd32 (mul_assoc _ _ _)

/-- The gain is the product of the level and the LFO's gain, both in [0, 1] (R275). -/
theorem vcaGain_mem {m : F32} (he : FiniteWith e fun q => 0 ≤ q ∧ q ≤ 1) (hl : FiniteWith l fun q => -1 ≤ q ∧ q ≤ 1)
    (hm : FiniteWith m fun q => 0 ≤ q ∧ q ≤ 1) : 0 ≤ val e * lfoGain m l ∧ val e * lfoGain m l ≤ 1 := by
  obtain ⟨-, he0, he1⟩ := finiteWith_iff.mp he
  obtain ⟨-, hl0, hl1⟩ := finiteWith_iff.mp hl
  obtain ⟨-, hm0, hm1⟩ := finiteWith_iff.mp hm
  obtain ⟨hg0, hg1⟩ := lfoGain_mem hm0 hm1 hl0 hl1
  exact ⟨mul_nonneg he0 hg0, mul_le_one₀ he1 hg0 hg1⟩

/-- A gain in [0, 1] does not make the sample larger, and rounding does not pass the sample (R275). -/
theorem vcaStep_out_abs_le (hx : f32Finite x = true) (h0 : 0 ≤ val e * lfoGain a.modvol l)
    (h1 : val e * lfoGain a.modvol l ≤ 1) : FiniteWith (vcaStep a x l e).out fun q => |q| ≤ |val x| := by
  rw [vcaStep_out]
  refine finiteWith_rnd32_abs_le hx ?_
  rw [abs_mul, abs_of_nonneg h0]
  exact mul_le_of_le_one_right (abs_nonneg _) h1

end

section
variable {m : Mix} {a b : F32}

/-- The average of two samples in [-1, 1] lies there, and rounding does not pass 1 (R283). -/
theorem mixStep_out_mem (ha : FiniteWith a fun q => -1 ≤ q ∧ q ≤ 1) (hb : FiniteWith b fun q => -1 ≤ q ∧ q ≤ 1) :
    FiniteWith (mixStep m a b).out fun q => -1 ≤ q ∧ q ≤ 1 := by
  obtain ⟨-, ha0, ha1⟩ := finiteWith_iff.mp ha
  obtain ⟨-, hb0, hb1⟩ := finiteWith_iff.mp hb
  have haverage : |(val a + val b) / 2| ≤ |val plusOne| := by
    rw [val_plusOne, abs_one, abs_le]
    constructor <;> linarith
  obtain ⟨q, hq, hle⟩ := finiteWith_rnd32_abs_le (by decide) haverage
  rw [val_plusOne, abs_one] at hle
  exact ⟨q, hq, abs_le.mp hle⟩

theorem mixStep_out_of_sum_zero (h : val a + val b = 0) : (mixStep m a b).out = plusZero := by
  rw [mixStep, h, zero_div, rnd32_zero]

theorem mixStep_comm : mixStep m a b = mixStep m b a := by
  rw [mixStep, mixStep, add_comm]

end

/-- Settles O36: both outputs are rounded once, and rounding keeps the bound, the zero and the sign of its argument. -/
theorem ampMixRanges : Obligations.AmpMixRanges := by
  refine ⟨fun a x l e hx he hl hm => ?amp, fun m a b ha hb => ?mix, fun m => ?smallest⟩
  case amp =>
    obtain ⟨h0, h1⟩ := vcaGain_mem he hl hm
    refine ⟨h0, h1, vcaStep_out_abs_le (finiteWith_iff.mp hx).1 h0 h1, fun hzero => ?zero, fun _ => ?sign⟩
    case zero => exact vcaStep_out.trans ((congrArg rnd32 hzero).trans rnd32_zero)
    case sign =>
      rw [vcaStep_out, ← msb_rnd32, BitVec.msb_eq_getLsbD_last]
      rfl
  case mix => exact ⟨mixStep_out_mem ha hb, mixStep_out_of_sum_zero, mixStep_comm⟩
  case smallest =>
    have hone : rnd32 ((val 0x00000001#32 + val 0x00000000#32) / 2) = 0x00000000#32 := by decide +kernel
    have hthree : rnd32 ((val 0x00000003#32 + val 0x00000000#32) / 2) = 0x00000002#32 := by decide +kernel
    have hminusZero : val 0x80000000#32 + val 0x80000000#32 = 0 := by decide +kernel
    exact ⟨hone, hthree, mixStep_out_of_sum_zero hminusZero⟩

/-- Unit 8 is the amplifier (R110). -/
theorem selectVca_vca : selectVca .vca = some () := rfl

/-- Unit 9 is the mixer (R110). -/
theorem selectMix_mix : selectMix .mix = some () := rfl

section
variable {c : CommandFields} {s : State} {V : Voice}

/-- VCA_SET_MOD_VOLUME outside [0, 1] (R271). -/
theorem execVcaSetModVolume_rejects (h : VoiceReached .vca c s V) (hr : reservedBitsSet .f32 c = false)
    (hv : ¬FiniteWith c.operand fun q => 0 ≤ q ∧ q ≤ 1) :
    execVcaSetModVolume c s = .next (s.rejected .contractViolation) := by
  rw [execVcaSetModVolume, vcaCommand_of_reached h, hr, if_neg Bool.false_ne_true,
    checked_of_not_legal f32Within_iff_finiteWith hv]

/-- VCA_SET_MOD_VOLUME in [0, 1] (R271). -/
theorem execVcaSetModVolume_stores (h : VoiceReached .vca c s V) (hr : reservedBitsSet .f32 c = false)
    (hv : FiniteWith c.operand fun q => 0 ≤ q ∧ q ≤ 1) :
    execVcaSetModVolume c s =
      .next (s.voiceAnswered c { V with vca := { V.vca with modvol := c.operand } } .ok 0#32) := by
  rw [execVcaSetModVolume, vcaCommand_of_reached h, hr, if_neg Bool.false_ne_true,
    checked_of_legal f32Within_iff_finiteWith hv]

end

/-- Settles O53: the setter by its range check; the advances store one step, and the reads keep the voice. -/
theorem ampMixCommandsResult : Obligations.AmpMixCommandsResult := by
  refine ⟨fun c s V h => ?amp, fun c s V h => ?mix⟩
  case amp =>
    simp only [exec, execVcaAdvance, execVcaRead]
    exact ⟨voiceCommand_reserved h selectVca_vca, execVcaSetModVolume_rejects h, execVcaSetModVolume_stores h,
      voiceCommand_reserved h selectVca_vca, fun hr => voiceCommand_ok h selectVca_vca hr rfl,
      voiceCommand_reserved h selectVca_vca, fun hr => voiceCommand_ok h selectVca_vca hr rfl⟩
  case mix =>
    simp only [exec, execMixAdvance, execMixRead]
    exact ⟨voiceCommand_reserved h selectMix_mix, fun hr => voiceCommand_ok h selectMix_mix hr rfl,
      voiceCommand_reserved h selectMix_mix, fun hr => voiceCommand_ok h selectMix_mix hr rfl⟩

end Sys2Proof.Machine
end

section
/-! PROOFS. The parity of a message and the word that reports its event (R299, R304). -/

namespace Sys2Proof.Machine

/-- An XOR over a list tells whether an odd number of its members have the bit. -/
theorem foldl_xor_eq_odd_filter {α : Type} (p : α → Bool) (l : List α) (acc : Bool) :
    l.foldl (fun b k => b ^^ p k) acc = (acc ^^ decide ((l.filter p).length % 2 = 1)) := by
  induction l generalizing acc with
  | nil => simp
  | cons k l ih =>
    rw [List.foldl_cons, ih]
    cases hk : p k with
    | false => simp [hk]
    | true =>
      have hodd : decide (((k :: l).filter p).length % 2 = 1) = !decide ((l.filter p).length % 2 = 1) := by
        rw [List.filter_cons_of_pos hk, List.length_cons, ← decide_not, decide_eq_decide]
        omega
      rw [hodd, Bool.xor_assoc, Bool.true_xor]

/-- An event word is its flag, ten zeros, the address and the value side by side (R304). -/
theorem decData_some (ev : DecEvent) : decData (some ev) = 1#1 ++ 0#10 ++ ev.address ++ ev.value := by
  have hflag : (1#1 ++ 0#10).setWidth 32 <<< 7 <<< 14 = 0x80000000#32 := by decide
  rw [← BitVec.setWidth_eq (1#1 ++ 0#10 ++ ev.address ++ ev.value), BitVec.setWidth_append_eq_shiftLeft_setWidth_or,
    BitVec.setWidth_append_eq_shiftLeft_setWidth_or, BitVec.shiftLeft_or_distrib, hflag, decData]

/-- A field that begins above the last bit of a word is zero. -/
theorem extractLsb_eq_zero_of_le {w start : Nat} (h : w ≤ start) (x : BitVec w) (len : Nat) :
    x.extractLsb' start len = 0#len := by
  ext i hi
  rw [BitVec.getElem_extractLsb', BitVec.getLsbD_of_ge x _ (by omega), BitVec.getElem_zero]

/-- The operands of a message's parity lie below bit 14 (R299). -/
theorem parityWord_top (a : BitVec 7) (v : BitVec 14) :
    (v.setWidth 16 ^^^ a.setWidth 16 : BitVec 16).extractLsb' 14 2 = 0#2 := by
  rw [BitVec.extractLsb'_xor, BitVec.extractLsb'_setWidth_of_le (by decide),
    BitVec.extractLsb'_setWidth_of_le (by decide), extractLsb_eq_zero_of_le (by decide) a,
    extractLsb_eq_zero_of_le (by decide) v, BitVec.xor_self]

/-- Settles O44: the fields are read off the concatenation, and the XOR of the bits counts them modulo 2. -/
theorem eventWordAndParity : Obligations.EventWordAndParity := by
  refine ⟨rfl, fun ev => ?fields, by decide, by decide, by decide, fun x => ?parity,
    fun a v => ⟨rfl, parityWord_top a v⟩⟩
  case fields =>
    rw [decData_some]
    refine ⟨?flag, ?address, BitVec.extractLsb'_append_eq_right, ?zeros⟩
    case flag =>
      simp only [BitVec.getLsbD_append]
      rfl
    case address =>
      rw [BitVec.extractLsb'_append_eq_of_le (by decide)]
      exact BitVec.extractLsb'_append_eq_right
    case zeros =>
      rw [BitVec.extractLsb'_append_eq_of_le (by decide), BitVec.extractLsb'_append_eq_of_le (by decide)]
      exact BitVec.extractLsb'_append_eq_right
  case parity => rw [parity16, foldl_xor_eq_odd_filter, Bool.false_xor]

end Sys2Proof.Machine
end

section
/-! PROOFS. The decoder table (R293 to R301): which bytes a state accepts, and what it does with them and with the
others. -/

namespace Sys2Proof.Machine

section
variable {d : Decoder} {b : BitVec 8}

/-- A data state accepts the bytes with bit 7 clear (R295). -/
theorem decAccepts_data (hs : d.state = .readAddress ∨ d.state = .readValue1 ∨ d.state = .readValue2) :
    decAccepts d.state b = true ↔ b.getLsbD 7 = false := by
  rcases hs with hs | hs | hs <;> rw [hs] <;> exact beq_iff_eq

/-- ReadStop accepts the bytes with bits 7:6 = 11 (R298). -/
theorem decAccepts_readStop : decAccepts .readStop b = true ↔ b &&& 0xC0#8 = 0xC0#8 := by
  revert b
  decide

/-- A byte that is not accepted is a framing error (R296). -/
theorem decStep_of_rejects (h : ¬decAccepts d.state b = true) : decStep d b = (decFramingError d b, none) :=
  if_neg h

/-- A framing error in Start counts and leaves the rest, unless the byte begins a message (R294). -/
theorem decFramingError_start (hs : d.state = .start) (hb : b ≠ 0x80#8) :
    decFramingError d b = { d with frameErr := d.frameErr + 1#32 } := by
  rw [decFramingError, if_neg hb, ← hs]

theorem decStep_start (hs : d.state = .start) (hb : b = 0x80#8) : decStep d b = (decBeginMessage d, none) := by
  simp [decStep, hs, decAccepts, hb]

/-- Bits 6:0 of a data byte are the whole byte (R295). -/
theorem extractLsb_setWidth_of_data (hb : b.getLsbD 7 = false) :
    (b.extractLsb' 0 7).setWidth 14 = b.setWidth 14 := by
  ext i hi
  rw [BitVec.getElem_setWidth, BitVec.getElem_setWidth, BitVec.getLsbD_extractLsb', Nat.zero_add]
  rcases lt_trichotomy i 7 with hlow | rfl | hhigh
  · rw [decide_eq_true hlow, Bool.true_and]
  · rw [hb, Bool.and_false]
  · rw [BitVec.getLsbD_of_ge b i hhigh, Bool.and_false]

theorem decStep_readAddress (hs : d.state = .readAddress) (hb : b.getLsbD 7 = false) :
    decStep d b = ({ d with address := b.setWidth 7, state := .readValue1 }, none) := by
  rw [decStep, if_pos ((decAccepts_data (.inl hs)).mpr hb), hs, BitVec.setWidth_eq_extractLsb' (v := 8) (by decide)]

theorem decStep_readValue1 (hs : d.state = .readValue1) (hb : b.getLsbD 7 = false) :
    decStep d b = ({ d with value := b.setWidth 14 <<< 7, state := .readValue2 }, none) := by
  rw [decStep, if_pos ((decAccepts_data (.inr (.inl hs))).mpr hb), hs, extractLsb_setWidth_of_data hb]

theorem decStep_readValue2 (hs : d.state = .readValue2) (hb : b.getLsbD 7 = false) :
    decStep d b = ({ d with value := d.value ||| b.setWidth 14, state := .readStop }, none) := by
  rw [decStep, if_pos ((decAccepts_data (.inr (.inr hs))).mpr hb), hs, extractLsb_setWidth_of_data hb]

theorem decStep_readStop (hs : d.state = .readStop) (hb : b &&& 0xC0#8 = 0xC0#8) : decStep d b = decStop d b := by
  rw [decStep, hs, if_pos (decAccepts_readStop.mpr hb)]

end

/-- Settles O42: the rows of the table, one lemma each; the rejected bytes are framing errors. -/
theorem decoderTable : Obligations.DecoderTable := by
  intro d b
  refine ⟨decStep_start, fun hs hb => ?startElse, decStep_readAddress, decStep_readValue1, decStep_readValue2,
    fun hs hb => ?dataElse, fun hs hb hpar => ?event, fun hs hb hpar => ?parityError, fun hs hb => ?stopElse⟩
  case startElse =>
    rw [decStep_of_rejects (by simpa [hs, decAccepts] using hb), decFramingError_start hs hb]
  case dataElse => exact decStep_of_rejects (by rw [decAccepts_data hs, hb]; decide)
  case event => exact (decStep_readStop hs hb).trans (if_pos hpar)
  case parityError => exact (decStep_readStop hs hb).trans (if_neg hpar)
  case stopElse => exact decStep_of_rejects (by rwa [hs, decAccepts_readStop])

end Sys2Proof.Machine
end

section
/-! PROOFS. The results of the DEC_ commands (R292, R302): each command that reaches its decoder is its rule on it. -/

namespace Sys2Proof.Machine

/-- Unit 11 is the decoder (R110). -/
theorem selectDec_dec : selectDec .dec = some () := rfl

section
variable {c : CommandFields} {s : State} {D : Decoder} {fmt : OperandFormat} {rule : Unit → Decoder → Reply Decoder}

/-- A reserved bit rejects a command that reaches its decoder (R333). -/
theorem decoderCommand_reserved (h : DecoderReached c s D) (hr : reservedBitsSet fmt c = true) :
    decoderCommand selectDec fmt c s rule = .next (s.rejected .reservedBits) :=
  (decoderCommand_of_reached h selectDec_dec fmt rule).trans (if_pos hr)

/-- A legal command stores the new decoder and answers. -/
theorem decoderCommand_ok {D' : Decoder} {data : BitVec 32} (h : DecoderReached c s D)
    (hr : reservedBitsSet fmt c = false) (hrule : rule () D = .ok D' data) :
    decoderCommand selectDec fmt c s rule = .next (s.decoderAnswered c D' .ok data) := by
  rw [decoderCommand_of_reached h selectDec_dec, if_neg (by rw [hr]; decide), hrule]

end

/-- The BYTE operand is the low byte of OPERAND (R104). -/
theorem byteOperand_eq_setWidth (c : CommandFields) : byteOperand c = c.operand.setWidth 8 :=
  BitVec.setWidth_eq_extractLsb' (by decide) |>.symm

/-- Settles O59: neither rule rejects, so a reserved bit is the only error. -/
theorem decoderCommandsResult : Obligations.DecoderCommandsResult := by
  intro c s D h
  simp only [exec, execDecByte, execDecClearCounters, byteOperand_eq_setWidth]
  exact ⟨decoderCommand_reserved h, fun hr => decoderCommand_ok h hr rfl,
    decoderCommand_reserved h, fun hr => decoderCommand_ok h hr rfl⟩

end Sys2Proof.Machine
end

section
/-! PROOFS. The result of NOP (R321): it has no template to pass, so it answers before any check (R333). -/

namespace Sys2Proof.Machine

/-- NOP reads neither its fields nor the port: it only responds. -/
theorem exec_nop (c : CommandFields) (s : State) : exec (.nop c) s = .next (s.respond .ok 0#32) := rfl

/-- Settles O56: a response is one entry in the log of the command's port and nothing else. -/
theorem nopResult : Obligations.NopResult := by
  intro c s
  rw [exec_nop, State.respond_eq_withResponse]

end Sys2Proof.Machine
end

section
/-! PROOFS. Encoding and decoding are inverse to each other (R101, R110), and what a step does with each host
interaction (R71, R360, R382). -/

namespace Sys2Proof.Machine

/-- Settles O1: the packed word holds the opcode and the fields, and the decoder reads nothing else. -/
theorem decodeEncode : Obligations.DecodeEncode := decode_encode

/-- The five fields of R101 cover a word: packed again they give it back. -/
theorem packWord_opcodeField_commandFields (w : CommandWord) : packWord (opcodeField w) (commandFields w) = w := by
  simp only [packWord, opcodeField, commandFields]
  rw [BitVec.extractLsb'_append_extractLsb'_eq_extractLsb' (by rfl),
    BitVec.extractLsb'_append_extractLsb'_eq_extractLsb' (by rfl),
    BitVec.extractLsb'_append_extractLsb'_eq_extractLsb' (by rfl),
    BitVec.extractLsb'_append_extractLsb'_eq_extractLsb' (by rfl)]
  exact BitVec.extractLsb'_eq_self

/-- Settles O2: a decoded command has the opcode and the fields of its word, and these are all its bits. -/
theorem encodeDecode : Obligations.EncodeDecode := by
  intro w i h
  rw [encode, opcode_of_decode h, fields_of_decode h, packWord_opcodeField_commandFields]

/-- Settles O5: the step takes the interaction and runs the decoded command. -/
theorem stepRunsDecoded : Obligations.StepRunsDecoded := by
  intro s p w rest i hin hdecode
  rw [step_command hin, execWord, hdecode]
  rfl

theorem step_reset {s : State} {rest : List HostInput} (h : s.inputs = .reset :: rest) :
    step s = .next (hostReset s rest) := by
  rw [step, h]

theorem step_idle {s : State} (h : s.inputs = []) : step s = .next s := by
  rw [step, h]
  rfl

/-- Settles O6: the two interactions that are no command. -/
theorem hostEvents : Obligations.HostEvents := ⟨fun _ _ => step_reset, fun _ => step_idle⟩

end Sys2Proof.Machine
end

section
/-! PROOFS. What every command answers (R71, R103, R334): one response on its own port, and nothing else unless the
STATUS is OK. -/

namespace Sys2Proof.Machine

section
variable (s : State) (p : Port) (r : Response)

@[simp] theorem State.withResponse_inputs : (s.withResponse p r).inputs = s.inputs := by
  cases p <;> rfl

@[simp] theorem State.withResponse_port : (s.withResponse p r).port = s.port := by
  cases p <;> rfl

@[simp] theorem State.withResponse_params : (s.withResponse p r).params = s.params := by
  cases p <;> rfl

@[simp] theorem State.withResponse_voices : (s.withResponse p r).voices = s.voices := by
  cases p <;> rfl

@[simp] theorem State.withResponse_decoders : (s.withResponse p r).decoders = s.decoders := by
  cases p <;> rfl

@[simp] theorem State.responsesOn_withResponse : (s.withResponse p r).responsesOn p = s.responsesOn p ++ [r] := by
  cases p <;> rfl

theorem State.responsesOn_withResponse_other {q : Port} (h : q ≠ p) :
    (s.withResponse p r).responsesOn q = s.responsesOn q := by
  cases p <;> cases q <;> first | rfl | exact absurd rfl h

end

/-- The state with new voices and decoders and one response on the command's port. -/
def State.answered (s : State) (voices : List Voice) (decoders : List Decoder) (r : Response) : State :=
  ({ s with voices := voices, decoders := decoders } : State).withResponse s.port r

theorem State.responsesOn_answered (s : State) (voices : List Voice) (decoders : List Decoder) (r : Response) :
    (s.answered voices decoders r).responsesOn s.port = s.responsesOn s.port ++ [r] :=
  State.responsesOn_withResponse _ _ _

theorem State.respond_eq_answered (s : State) (st : Status) (d : BitVec 32) :
    s.respond st d = s.answered s.voices s.decoders ⟨st, d⟩ :=
  s.respond_eq_withResponse st d

/-- A command answers one response on its port, and any STATUS but OK comes with DATA 0 and no other change. -/
theorem CommandShape.answers {c : CommandFields} {run : State → Host.Outcome State Fault Refusal}
    (hshape : CommandShape c run) (s : State) :
    ∃ voices decoders r, run s = .next (s.answered voices decoders r) ∧
      (r.status ≠ .ok → r.data = 0#32 ∧ voices = s.voices ∧ decoders = s.decoders) := by
  cases hshape with
  | answer st h => exact ⟨_, _, _, (h s).trans (congrArg _ (s.respond_eq_answered st 0#32)), fun _ => ⟨rfl, rfl, rfl⟩⟩
  | voice select fmt rule _ h _ =>
    obtain ⟨t, ht⟩ := voiceCommand_answers select fmt c s (rule s)
    obtain ⟨st, -, rfl⟩ | ⟨_, _, _, V', d, -, -, -, -, -, -, rfl⟩ := voiceCommand_cases ht
    · exact ⟨_, _, _, ((h s).trans ht).trans (congrArg _ (s.respond_eq_answered st 0#32)), fun _ => ⟨rfl, rfl, rfl⟩⟩
    · exact ⟨_, _, _, ((h s).trans ht).trans (congrArg _ ((s.setVoice c.inst.toNat V').respond_eq_answered .ok d)),
        fun hne => absurd rfl hne⟩
  | decoder fmt rule h =>
    obtain ⟨t, ht⟩ := decoderCommand_answers selectDec fmt c s rule
    obtain ⟨st, -, rfl⟩ | ⟨_, _, _, D', d, -, -, -, -, -, -, rfl⟩ := decoderCommand_cases ht
    · exact ⟨_, _, _, ((h s).trans ht).trans (congrArg _ (s.respond_eq_answered st 0#32)), fun _ => ⟨rfl, rfl, rfl⟩⟩
    · exact ⟨_, _, _, ((h s).trans ht).trans (congrArg _ ((s.setDecoder c.inst.toNat D').respond_eq_answered .ok d)),
        fun hne => absurd rfl hne⟩

/-- Settles O8: every word has one of the three shapes, and each of them answers. -/
theorem commandAlwaysAnswers : Obligations.CommandAlwaysAnswers := by
  intro s p w rest hin
  obtain ⟨voices, decoders, r, hrun, hreject⟩ := (execWord_shape w).answers (s.accept p rest)
  refine ⟨_, r, (step_command hin).trans hrun, ?_, ?_, ?_, fun q hq => ?_, fun hne => (hreject hne).1⟩
  · exact State.withResponse_inputs _ _ _
  · exact State.withResponse_port _ _ _
  · exact (s.accept p rest).responsesOn_answered voices decoders r
  · exact State.responsesOn_withResponse_other _ _ _ hq

/-- Settles O9: the added response is the one of the command, and with its STATUS the state is the old one. -/
theorem rejectionChangesNothing : Obligations.RejectionChangesNothing := by
  intro s t p w rest r hin hstep hresponse hne
  obtain ⟨voices, decoders, r', hrun, hreject⟩ := (execWord_shape w).answers (s.accept p rest)
  obtain rfl := Host.Outcome.next.inj (((step_command hin).trans hrun).symm.trans hstep)
  have hadded : s.responsesOn p ++ [r'] = s.responsesOn p ++ [r] :=
    ((s.accept p rest).responsesOn_answered voices decoders r').symm.trans hresponse
  obtain rfl : r' = r := List.singleton_inj.mp (List.append_cancel_left hadded)
  obtain ⟨hdata, rfl, rfl⟩ := hreject hne
  obtain ⟨status, data⟩ := r'
  obtain rfl : data = 0#32 := hdata
  rfl

/-- Settles O14: a command rewrites one voice or one decoder in place, and a reset makes as many as there were. -/
theorem stepKeepsParameters : Obligations.StepKeepsParameters := by
  intro s t hstep
  match hin : s.inputs with
  | [] =>
    obtain rfl := Host.Outcome.next.inj ((step_idle hin).symm.trans hstep)
    exact ⟨rfl, rfl, rfl⟩
  | .reset :: rest =>
    obtain rfl := Host.Outcome.next.inj ((step_reset hin).symm.trans hstep)
    exact ⟨rfl, by simp [resetVoices], by simp [resetDecoders]⟩
  | .command .aport w :: rest =>
    obtain ⟨f, r, haport⟩ := step_aport w
    obtain rfl := Host.Outcome.next.inj ((haport s rest hin).symm.trans hstep)
    exact ⟨rfl, List.length_modify _ _ _, rfl⟩
  | .command .cport w :: rest =>
    obtain ⟨f, r, hcport⟩ := step_cport w
    obtain rfl := Host.Outcome.next.inj ((hcport s rest hin).symm.trans hstep)
    exact ⟨rfl, rfl, List.length_modify _ _ _⟩

end Sys2Proof.Machine
end

section
/-! PROOFS. The order of the checks of R333: the templates make them one after the other, and each row of R110 gives the
templates its unit set and its operand format. -/

namespace Sys2Proof.Machine

/-- Every command but NOP is one of the two templates, with the units and the operand format of its row (R110). -/
inductive CheckedShape (i : Instr) : Prop where
  | voice {α : Type} (select : UnitId → Option α) (rule : State → α → Voice → Reply Voice)
      (haccepts : ∀ u, unitOfCode i.fields.unit = some u → instrAccepts i u = (select u).isSome)
      (hdec : unitOfCode i.fields.unit = some .dec → select .dec = none)
      (h : ∀ s, exec i s = voiceCommand select (instrFormat i) i.fields s (rule s))
  | decoder (rule : Unit → Decoder → Reply Decoder)
      (haccepts : ∀ u, unitOfCode i.fields.unit = some u → instrAccepts i u = (selectDec u).isSome)
      (h : ∀ s, exec i s = decoderCommand selectDec (instrFormat i) i.fields s rule)

theorem readReg_checkedShape (c : CommandFields) : CheckedShape (.readReg c) := by
  by_cases hu : unitOfCode c.unit = some .dec
  · refine .decoder (fun _ D => readRegReply (decRegs D) c.operand D) (fun u hu' => ?_) fun s => ?_
    · obtain rfl := Option.some.inj (hu.symm.trans hu')
      rfl
    · rw [exec, execReadReg, hu]
      rfl
  · refine .voice selectAny (fun _ u V => readRegReply (voiceUnitRegs V u) c.operand V) (fun _ _ => rfl)
      (fun h => absurd h hu) fun s => ?_
    rw [exec]
    unfold execReadReg
    split
    · contradiction
    · rfl

theorem exec_checkedShape {i : Instr} (h : i.opcode ≠ 0x00#8) : CheckedShape i := by
  cases i
  case nop => exact absurd rfl h
  case readReg c => exact readReg_checkedShape c
  case decByte | decClearCounters => exact .decoder _ (fun _ _ => rfl) fun _ => by unfold exec; rfl
  case oscRead | egNoteOff | egAdvance | egRead | vcfRead | vcaRead | mixRead =>
    exact .voice _ _ (fun _ _ => rfl) (fun _ => rfl) fun _ => by
      dsimp only [exec, execOscRead, execEgNoteOff, execEgAdvance, execEgRead, execVcfRead, execVcaRead, execMixRead,
        oscCommand, egCommand, vcfCommand, vcaCommand, mixCommand]
      rfl
  all_goals exact .voice _ _ (fun _ _ => rfl) (fun _ => rfl) fun _ => by unfold exec; rfl

theorem reservedBitsSet_iff {fmt : OperandFormat} {c : CommandFields} :
    reservedBitsSet fmt c = true ↔ c.rsv ≠ 0#12 ∨ c.operand &&& reservedMask fmt ≠ 0#32 := by
  simp [reservedBitsSet]

theorem reservedBitsSet_eq_false {fmt : OperandFormat} {c : CommandFields} (hrsv : c.rsv = 0#12)
    (hmask : c.operand &&& reservedMask fmt = 0#32) : reservedBitsSet fmt c = false := by
  simp [reservedBitsSet, hrsv, hmask]

/-- The checks of R333 after the one for the unit, for a command legal on `port` and `count` targets: the first failing
one is answered, and past them only CONTRACT_VIOLATION or OK. -/
def ChecksInOrder (fmt : OperandFormat) (c : CommandFields) (s : State) (port : Port) (count : Nat)
    (outcome : Host.Outcome State Fault Refusal) : Prop :=
  (s.port ≠ port → outcome = .next (s.rejected .wrongPort)) ∧
  (¬s.port ≠ port → count ≤ c.inst.toNat → outcome = .next (s.rejected .badInstance)) ∧
  (¬s.port ≠ port → c.inst.toNat < count → c.rsv ≠ 0#12 ∨ c.operand &&& reservedMask fmt ≠ 0#32 →
    outcome = .next (s.rejected .reservedBits)) ∧
  (¬s.port ≠ port → c.inst.toNat < count → c.rsv = 0#12 → c.operand &&& reservedMask fmt = 0#32 →
    outcome = .next (s.rejected .contractViolation) ∨
    ∃ t d, outcome = .next t ∧ t.responsesOn s.port = s.responsesOn s.port ++ [⟨.ok, d⟩])

section
variable {α : Type} {c : CommandFields} {s : State} {select : UnitId → Option α} {u : UnitId} {a : α}

theorem voiceCommand_checksInOrder (hu : unitOfCode c.unit = some u) (ha : select u = some a) (hdec : u ≠ .dec)
    (fmt : OperandFormat) (rule : α → Voice → Reply Voice) :
    ChecksInOrder fmt c s .aport s.voices.length (voiceCommand select fmt c s rule) := by
  have hreached (hport : ¬s.port ≠ .aport) (hlt : c.inst.toNat < s.voices.length) :
      VoiceReached u c s s.voices[c.inst.toNat] :=
    ⟨hu, hdec, not_not.mp hport, List.getElem?_eq_getElem hlt⟩
  refine ⟨fun hport => ?port, fun hport hle => ?range, fun hport hlt hbits => ?reserved,
    fun hport hlt hrsv hmask => ?legal⟩
  case port =>
    have hne : s.port ≠ unitPort u := (unitPort_eq_aport hdec).symm ▸ hport
    simp only [voiceCommand, hu, ha, if_pos hne, raise_eq_withResponse, State.rejected]
  case range =>
    have heq : ¬s.port ≠ unitPort u := (unitPort_eq_aport hdec).symm ▸ hport
    simp only [voiceCommand, hu, ha, if_neg heq, List.getElem?_eq_none hle, raise_eq_withResponse, State.rejected]
  case reserved => rw [voiceCommand_of_reached (hreached hport hlt) ha, if_pos (reservedBitsSet_iff.mpr hbits)]
  case legal =>
    rw [voiceCommand_of_reached (hreached hport hlt) ha, reservedBitsSet_eq_false hrsv hmask,
      if_neg Bool.false_ne_true, not_not.mp hport]
    cases rule a s.voices[c.inst.toNat] with
    | violation => exact .inl rfl
    | ok V d => exact .inr ⟨_, d, rfl, rfl⟩

theorem decoderCommand_checksInOrder (hu : unitOfCode c.unit = some .dec) (ha : select .dec = some a)
    (fmt : OperandFormat) (rule : α → Decoder → Reply Decoder) :
    ChecksInOrder fmt c s .cport s.decoders.length (decoderCommand select fmt c s rule) := by
  have hreached (hport : ¬s.port ≠ .cport) (hlt : c.inst.toNat < s.decoders.length) :
      DecoderReached c s s.decoders[c.inst.toNat] :=
    ⟨hu, not_not.mp hport, List.getElem?_eq_getElem hlt⟩
  refine ⟨fun hport => ?port, fun hport hle => ?range, fun hport hlt hbits => ?reserved,
    fun hport hlt hrsv hmask => ?legal⟩
  case port =>
    have hne : s.port ≠ unitPort .dec := hport
    simp only [decoderCommand, hu, ha, if_pos hne, raise_eq_withResponse, State.rejected]
  case range =>
    have heq : ¬s.port ≠ unitPort .dec := hport
    simp only [decoderCommand, hu, ha, if_neg heq, List.getElem?_eq_none hle, raise_eq_withResponse, State.rejected]
  case reserved => rw [decoderCommand_of_reached (hreached hport hlt) ha, if_pos (reservedBitsSet_iff.mpr hbits)]
  case legal =>
    rw [decoderCommand_of_reached (hreached hport hlt) ha, reservedBitsSet_eq_false hrsv hmask,
      if_neg Bool.false_ne_true, not_not.mp hport]
    cases rule a s.decoders[c.inst.toNat] with
    | violation => exact .inl rfl
    | ok D d => exact .inr ⟨_, d, rfl, rfl⟩

end

/-- A unit the opcode does not accept is answered with ILLEGAL_UNIT (R112). -/
theorem CheckedShape.illegalUnit {i : Instr} (hshape : CheckedShape i) (s : State)
    (hnone : ∀ u, unitOfCode i.fields.unit = some u → instrAccepts i u = false) :
    exec i s = .next (s.rejected .illegalUnit) := by
  have hselect {α : Type} {select : UnitId → Option α}
      (haccepts : ∀ u, unitOfCode i.fields.unit = some u → instrAccepts i u = (select u).isSome) :
      ∀ u, unitOfCode i.fields.unit = some u → select u = none := fun u hu =>
    Option.isSome_eq_false_iff.mp ((haccepts u hu).symm.trans (hnone u hu)) |> Option.isNone_iff_eq_none.mp
  cases hshape with
  | voice select rule haccepts hdec h =>
    rw [h, voiceCommand]
    cases hu : unitOfCode i.fields.unit with
    | none => exact raise_eq_withResponse _ s
    | some u => simp only [hselect haccepts u hu, raise_eq_withResponse, State.rejected]
  | decoder rule haccepts h =>
    rw [h, decoderCommand]
    cases hu : unitOfCode i.fields.unit with
    | none => exact raise_eq_withResponse _ s
    | some u => simp only [hselect haccepts u hu, raise_eq_withResponse, State.rejected]

/-- For an accepted unit the other checks follow, on the port and among the voices or decoders of that unit. -/
theorem CheckedShape.checksInOrder {i : Instr} (hshape : CheckedShape i) (s : State) {u : UnitId}
    (hu : unitOfCode i.fields.unit = some u) (haccepted : instrAccepts i u = true) :
    ChecksInOrder (instrFormat i) i.fields s (if u = .dec then .cport else .aport)
      (if u = .dec then s.decoders.length else s.voices.length) (exec i s) := by
  cases hshape with
  | voice select rule haccepts hdec h =>
    obtain ⟨a, ha⟩ := Option.isSome_iff_exists.mp ((haccepts u hu).symm.trans haccepted)
    have hne : u ≠ .dec := by
      rintro rfl
      exact absurd ha (by simp [hdec hu])
    rw [if_neg hne, if_neg hne, h]
    exact voiceCommand_checksInOrder hu ha hne _ _
  | decoder rule haccepts h =>
    obtain rfl : u = .dec := selectDec_isSome.mp ((haccepts u hu).symm.trans haccepted)
    rw [if_pos rfl, if_pos rfl, h]
    exact decoderCommand_checksInOrder hu selectDec_dec _ _

/-- The units column of R110, by ranges of opcodes. -/
theorem instrAccepts_iff {i : Instr} (u : UnitId) (h : i.opcode ≠ 0x00#8) :
    instrAccepts i u = true ↔
      (0x01 ≤ i.opcode.toNat ∧ i.opcode.toNat ≤ 0x09 ∧ ∃ o, u = .osc o) ∨
      (0x10 ≤ i.opcode.toNat ∧ i.opcode.toNat ≤ 0x17 ∧ ∃ e, u = .eg e) ∨
      (0x20 ≤ i.opcode.toNat ∧ i.opcode.toNat ≤ 0x24 ∧ u = .vcf) ∨
      (0x28 ≤ i.opcode.toNat ∧ i.opcode.toNat ≤ 0x2A ∧ u = .vca) ∨
      (0x30 ≤ i.opcode.toNat ∧ i.opcode.toNat ≤ 0x31 ∧ u = .mix) ∨
      (0x38 ≤ i.opcode.toNat ∧ i.opcode.toNat ≤ 0x3D ∧ u = .voice) ∨ i.opcode.toNat = 0x3F ∨
      (0x40 ≤ i.opcode.toNat ∧ i.opcode.toNat ≤ 0x41 ∧ u = .dec) := by
  cases i
  case nop => exact absurd rfl h
  all_goals simp [instrAccepts, Instr.opcode, selectAny]

/-- Settles O10: an unassigned opcode and NOP by themselves, every other command by its template. -/
theorem checkOrder : Obligations.CheckOrder := by
  refine ⟨fun s p w rest hin hun => ?unassigned, fun c s => ?nop, fun i s hi => ⟨?unit, fun u hu haccepted => ?rest⟩,
    rfl, rfl, rfl, rfl, rfl, rfl, rfl, rfl, fun i u hi => instrAccepts_iff u hi, rfl⟩
  case unassigned =>
    obtain ⟨e, he⟩ := (decode_error_iff w).mpr hun
    rw [step_command hin, execWord, he]
    exact raise_eq_withResponse _ _
  case nop => rw [exec_nop, State.respond_eq_withResponse]
  case unit => exact (exec_checkedShape hi).illegalUnit s
  case rest => exact (exec_checkedShape hi).checksInOrder s hu haccepted

end Sys2Proof.Machine
end

section
/-! PROOFS. The commands that change nothing and those that a repetition leaves alone (R81), and the result of READ_REG
(R322). -/

namespace Sys2Proof.Machine

section
variable {α : Type} {c : CommandFields} {s : State} {select : UnitId → Option α} {fmt : OperandFormat}

/-- The run answers and changes nothing else. -/
def OnlyAnswers (outcome : Host.Outcome State Fault Refusal) (s : State) : Prop :=
  ∃ r, outcome = .next (s.withResponse s.port r)

theorem setVoice_self {k : Nat} {V : Voice} (h : s.voices[k]? = some V) : s.setVoice k V = s := by
  obtain ⟨hk, rfl⟩ := List.getElem?_eq_some_iff.mp h
  rw [State.setVoice, List.set_getElem_self]

theorem setDecoder_self {k : Nat} {D : Decoder} (h : s.decoders[k]? = some D) : s.setDecoder k D = s := by
  obtain ⟨hk, rfl⟩ := List.getElem?_eq_some_iff.mp h
  rw [State.setDecoder, List.set_getElem_self]

/-- A voice command whose rule writes no new voice only answers. -/
theorem voiceCommand_onlyAnswers {rule : α → Voice → Reply Voice}
    (hkeeps : ∀ a V W d, rule a V = .ok W d → W = V) : OnlyAnswers (voiceCommand select fmt c s rule) s := by
  obtain ⟨t, ht⟩ := voiceCommand_answers select fmt c s rule
  obtain ⟨st, -, rfl⟩ | ⟨_, a, V, W, d, -, -, -, hV, -, hrule, rfl⟩ := voiceCommand_cases ht
  · exact ⟨_, ht.trans (congrArg _ (s.respond_eq_withResponse st 0#32))⟩
  · rw [hkeeps a V W d hrule, setVoice_self hV, State.respond_eq_withResponse] at ht
    exact ⟨_, ht⟩

/-- A decoder command whose rule writes no new decoder only answers. -/
theorem decoderCommand_onlyAnswers {rule : α → Decoder → Reply Decoder}
    (hkeeps : ∀ a D E d, rule a D = .ok E d → E = D) : OnlyAnswers (decoderCommand select fmt c s rule) s := by
  obtain ⟨t, ht⟩ := decoderCommand_answers select fmt c s rule
  obtain ⟨st, -, rfl⟩ | ⟨_, a, D, E, d, -, -, -, hD, -, hrule, rfl⟩ := decoderCommand_cases ht
  · exact ⟨_, ht.trans (congrArg _ (s.respond_eq_withResponse st 0#32))⟩
  · rw [hkeeps a D E d hrule, setDecoder_self hD, State.respond_eq_withResponse] at ht
    exact ⟨_, ht⟩

/-- READ_REG writes nothing back (R322). -/
theorem readRegReply_keeps {β : Type} {regs : List (BitVec 32)} {index : BitVec 32} {x y : β} {d : BitVec 32}
    (h : readRegReply regs index x = .ok y d) : y = x := by
  unfold readRegReply at h
  split at h
  · cases h
  · exact (Reply.ok.inj h).1.symm

theorem execReadReg_onlyAnswers : OnlyAnswers (execReadReg c s) s := by
  unfold execReadReg
  split
  · exact decoderCommand_onlyAnswers fun _ _ _ _ h => readRegReply_keeps h
  · exact voiceCommand_onlyAnswers fun _ _ _ _ h => readRegReply_keeps h

end

/-- Settles O18: the rule of each of these commands gives back the unit it read. -/
theorem readsChangeNothing : Obligations.ReadsChangeNothing := by
  intro i s hread
  cases i
  case nop c => exact ⟨_, (exec_nop c s).trans (congrArg _ (s.respond_eq_withResponse .ok 0#32))⟩
  case oscRead c =>
    exact voiceCommand_onlyAnswers fun o V W d h => (Reply.ok.inj h).1.symm.trans (V.setOsc_osc_self o)
  case egRead c =>
    exact voiceCommand_onlyAnswers fun e V W d h => (Reply.ok.inj h).1.symm.trans (V.setEg_eg_self e)
  case vcfRead | vcaRead | mixRead | voiceRead | voiceState | voiceKey =>
    exact voiceCommand_onlyAnswers fun _ V W d h => (Reply.ok.inj h).1.symm
  case readReg c => exact execReadReg_onlyAnswers
  all_goals cases hread

section
variable {β : Type} {rule : β → Reply β}

/-- Applied to what it wrote, the rule writes the same again and answers the same. -/
def RuleIdempotent (rule : β → Reply β) : Prop := ∀ x y d, rule x = .ok y d → rule y = .ok y d

theorem instanceAfter_idempotent (h : RuleIdempotent rule) (reserved : Bool) (x : β) :
    instanceAfter reserved rule (instanceAfter reserved rule x) = instanceAfter reserved rule x := by
  cases reserved with
  | true => rfl
  | false =>
    cases hx : rule x with
    | violation => simp [instanceAfter, hx]
    | ok y d => simp [instanceAfter, hx, h x y d hx]

theorem instanceResponse_instanceAfter (h : RuleIdempotent rule) (reserved : Bool) (x : Option β) :
    instanceResponse reserved rule (x.map (instanceAfter reserved rule)) = instanceResponse reserved rule x := by
  cases x with
  | none => rfl
  | some x =>
    cases reserved with
    | true => rfl
    | false =>
      cases hx : rule x with
      | violation => simp [instanceAfter, instanceResponse, hx]
      | ok y d => simp [instanceAfter, instanceResponse, hx, h x y d hx]

/-- A range check that stores one value of a field is idempotent. -/
theorem ruleIdempotent_checked {legal : Bool} {write : β → β} (h : ∀ x, write (write x) = write x) :
    RuleIdempotent fun x => checked legal (write x) := by
  cases legal with
  | false => exact fun _ _ _ hx => by cases hx
  | true =>
    intro x y d hx
    obtain ⟨rfl, rfl⟩ := Reply.ok.inj hx
    exact congrArg (Reply.ok · 0#32) (h x)

theorem ruleIdempotent_ok {write : β → β} (h : ∀ x, write (write x) = write x) :
    RuleIdempotent fun x => .ok (write x) 0#32 := ruleIdempotent_checked (legal := true) h

end

/-- Issued twice in a row, the command answers the same and changes nothing the second time. -/
def AnswersTwice (run : State → Host.Outcome State Fault Refusal) (s : State) : Prop :=
  ∃ t r, run s = .next t ∧ t.responsesOn s.port = s.responsesOn s.port ++ [r] ∧
    run t = .next (t.withResponse s.port r)

section
variable {α : Type} {c : CommandFields} {s : State} {select : UnitId → Option α} {fmt : OperandFormat}

/-- A run that answers the same in every state of a port answers twice there. -/
theorem answersTwice_of_answers {run : State → Host.Outcome State Fault Refusal} {r : Response}
    (h : ∀ t : State, t.port = s.port → run t = .next (t.withResponse t.port r)) : AnswersTwice run s := by
  refine ⟨_, r, h s rfl, s.responsesOn_withResponse s.port r, ?_⟩
  have hport := s.withResponse_port s.port r
  rw [h _ hport, hport]

/-- A voice command with an idempotent rule: the second time it finds the voice as it would leave it. -/
theorem voiceCommand_answersTwice {rule : Params → α → Voice → Reply Voice} (hdec : select .dec = none)
    (hrule : ∀ p a, RuleIdempotent (rule p a)) :
    AnswersTwice (fun s => voiceCommand select fmt c s (rule s.params)) s := by
  by_cases hon : ∃ u a, unitOfCode c.unit = some u ∧ select u = some a ∧ s.port = unitPort u
  · obtain ⟨u, a, hu, ha, hport⟩ := hon
    have hne : u ≠ .dec := by
      rintro rfl
      simp [hdec] at ha
    rw [unitPort_eq_aport hne] at hport
    refine ⟨_, _, voiceCommand_on_aport hu ha hne hport fmt _, by rw [hport]; rfl, ?_⟩
    refine (voiceCommand_on_aport hu ha hne (by exact hport) fmt _).trans (congrArg _ ?_)
    rw [State.voiceUpdated_eq_withResponse fun V hV => ?_, hport, State.voiceUpdated_params, State.voiceUpdated_voices,
      List.getElem?_modify_eq]
    · exact congrArg _ (instanceResponse_instanceAfter (hrule s.params a) _ _)
    · rw [State.voiceUpdated_voices, List.getElem?_modify_eq, Option.map_eq_map, Option.map_eq_some_iff] at hV
      obtain ⟨V, -, rfl⟩ := hV
      exact instanceAfter_idempotent (hrule s.params a) _ V
  · refine answersTwice_of_answers fun t ht => voiceCommand_off_port (fun u hu hsel hport => hon ?_) fmt _
    obtain ⟨a, ha⟩ := Option.isSome_iff_exists.mp hsel
    exact ⟨u, a, hu, ha, ht ▸ hport⟩

/-- The same for a decoder command. -/
theorem decoderCommand_answersTwice {rule : Unit → Decoder → Reply Decoder} (hrule : RuleIdempotent (rule ())) :
    AnswersTwice (fun s => decoderCommand selectDec fmt c s rule) s := by
  by_cases hon : unitOfCode c.unit = some .dec ∧ s.port = .cport
  · obtain ⟨hu, hport⟩ := hon
    refine ⟨_, _, decoderCommand_on_cport hu selectDec_dec hport fmt _, by rw [hport]; rfl, ?_⟩
    refine (decoderCommand_on_cport hu selectDec_dec (by exact hport) fmt _).trans (congrArg _ ?_)
    rw [State.decoderUpdated_eq_withResponse fun D hD => ?_, hport, State.decoderUpdated_decoders,
      List.getElem?_modify_eq]
    · exact congrArg _ (instanceResponse_instanceAfter hrule _ _)
    · rw [State.decoderUpdated_decoders, List.getElem?_modify_eq, Option.map_eq_map, Option.map_eq_some_iff] at hD
      obtain ⟨D, -, rfl⟩ := hD
      exact instanceAfter_idempotent hrule _ D
  · refine answersTwice_of_answers fun t ht => decoderCommand_off_port (fun u hu hsel hport => hon ?_) fmt _
    obtain rfl := selectDec_isSome.mp hsel
    exact ⟨hu, ht ▸ hport⟩

theorem Voice.setOsc_setOsc (V : Voice) (o : OscId) (x y : Osc) : (V.setOsc o x).setOsc o y = V.setOsc o y := by
  cases o <;> rfl

theorem Voice.setEg_setEg (V : Voice) (e : EgId) (x y : Eg) : (V.setEg e x).setEg e y = V.setEg e y := by
  cases e <;> rfl

theorem oscCommand_answersTwice {rule : Params → Osc → Reply Osc} (hrule : ∀ p, RuleIdempotent (rule p)) :
    AnswersTwice (fun s => oscCommand fmt c s (rule s.params)) s := by
  refine voiceCommand_answersTwice (rule := fun p o V => match rule p (V.osc o) with
    | .violation => .violation
    | .ok x data => .ok (V.setOsc o x) data) rfl fun p o V W d h => ?_
  cases hx : rule p (V.osc o) with
  | violation => simp [hx] at h
  | ok x data =>
    simp only [hx, Reply.ok.injEq] at h
    obtain ⟨rfl, rfl⟩ := h
    simp only [Voice.osc_setOsc_same, hrule p _ _ _ hx, Voice.setOsc_setOsc]

theorem egCommand_answersTwice {rule : Eg → Reply Eg} (hrule : RuleIdempotent rule) :
    AnswersTwice (fun s => egCommand fmt c s rule) s := by
  refine voiceCommand_answersTwice (rule := fun _ e V => match rule (V.eg e) with
    | .violation => .violation
    | .ok x data => .ok (V.setEg e x) data) rfl fun _ e V W d h => ?_
  cases hx : rule (V.eg e) with
  | violation => simp [hx] at h
  | ok x data =>
    simp only [hx, Reply.ok.injEq] at h
    obtain ⟨rfl, rfl⟩ := h
    simp only [Voice.eg_setEg_same, hrule _ _ _ hx, Voice.setEg_setEg]

theorem vcfCommand_answersTwice {rule : Vcf → Reply Vcf} (hrule : RuleIdempotent rule) :
    AnswersTwice (fun s => vcfCommand fmt c s rule) s := by
  refine voiceCommand_answersTwice (rule := fun _ _ V => match rule V.vcf with
    | .violation => .violation
    | .ok x data => .ok { V with vcf := x } data) rfl fun _ _ V W d h => ?_
  cases hx : rule V.vcf with
  | violation => simp [hx] at h
  | ok x data =>
    simp only [hx, Reply.ok.injEq] at h
    obtain ⟨rfl, rfl⟩ := h
    simp only [hrule _ _ _ hx]

theorem vcaCommand_answersTwice {rule : Vca → Reply Vca} (hrule : RuleIdempotent rule) :
    AnswersTwice (fun s => vcaCommand fmt c s rule) s := by
  refine voiceCommand_answersTwice (rule := fun _ _ V => match rule V.vca with
    | .violation => .violation
    | .ok x data => .ok { V with vca := x } data) rfl fun _ _ V W d h => ?_
  cases hx : rule V.vca with
  | violation => simp [hx] at h
  | ok x data =>
    simp only [hx, Reply.ok.injEq] at h
    obtain ⟨rfl, rfl⟩ := h
    simp only [hrule _ _ _ hx]

end

/-- EFF does not depend on the EFF there was (R37). -/
theorem refreshEff_of_eff (p : Params) (o : Osc) (e : F32) : ({ o with eff := e } : Osc).refreshEff p = o.refreshEff p :=
  rfl

/-- A field set again and EFF computed again are what they were. -/
theorem ruleIdempotent_refreshEff {legal : Bool} {write : Osc → Osc} (p : Params)
    (h : ∀ o e, write { write o with eff := e } = { write o with eff := e }) :
    RuleIdempotent fun o => checked legal ((write o).refreshEff p) := by
  refine ruleIdempotent_checked (write := fun o => (write o).refreshEff p) fun o => ?_
  exact (congrArg (Osc.refreshEff p) (h o ((write o).refreshEff p).eff)).trans (refreshEff_of_eff p _ _)

/-- A pitch set again is the same pitch (R192). -/
theorem setPitch_setPitch (p : Params) (key : Nat) (o : Osc) : setPitch p key (setPitch p key o) = setPitch p key o := by
  rcases Nat.lt_or_ge key 108 with h | h
  · simp only [setPitch_of_lt p h]
  · simp only [setPitch_of_le p h]

/-- A second note-on of the same note leaves the level and starts the attack that has just started (R192, R227). -/
theorem voiceNoteOnEffect_idempotent (p : Params) (key vel : BitVec 8) (V : Voice) :
    voiceNoteOnEffect p key vel (voiceNoteOnEffect p key vel V) = voiceNoteOnEffect p key vel V := by
  simp only [voiceNoteOnEffect, setPitch_setPitch, egNoteOn]

/-- The note number sets the pitch as a key does (R143, R192). -/
theorem execOscSetMidiNote_eq (c : CommandFields) (s : State) :
    execOscSetMidiNote c s = oscCommand .u32 c s fun o => .ok (setPitch s.params c.operand.toNat o) 0#32 := by
  rw [execOscSetMidiNote]
  congr 1
  funext o
  rw [setPitch, ← apply_ite (Reply.ok · 0#32)]

theorem oscSetMidiNote_answersTwice (c : CommandFields) (s : State) : AnswersTwice (exec (.oscSetMidiNote c)) s := by
  have hexec : exec (.oscSetMidiNote c) =
      fun s => oscCommand .u32 c s fun o => .ok (setPitch s.params c.operand.toNat o) 0#32 :=
    funext (execOscSetMidiNote_eq c)
  rw [hexec]
  exact oscCommand_answersTwice (rule := fun p o => .ok (setPitch p c.operand.toNat o) 0#32) fun p =>
    ruleIdempotent_ok (setPitch_setPitch p c.operand.toNat)

/-- Settles O19: every one of these rules stores what does not depend on what it has stored. -/
theorem writesIdempotent : Obligations.WritesIdempotent := by
  intro i s hwrite
  show AnswersTwice (exec i) s
  cases i
  case oscSetWaveform c =>
    refine oscCommand_answersTwice (rule := fun _ o => match waveformOfCode (waveOperand c) with
      | none => .violation
      | some w => .ok { o with wave := w } 0#32) fun _ => ?_
    cases waveformOfCode (waveOperand c) with
    | none => exact ruleIdempotent_checked (legal := false) (write := id) fun _ => rfl
    | some w => exact ruleIdempotent_ok fun _ => rfl
  case oscSetMidiNote c => exact oscSetMidiNote_answersTwice c s
  case oscSetFrequency c =>
    exact oscCommand_answersTwice fun p =>
      ruleIdempotent_refreshEff (write := fun o => { o with base := c.operand }) p fun _ _ => rfl
  case oscSetDetune c =>
    exact oscCommand_answersTwice fun p =>
      ruleIdempotent_refreshEff (write := fun o => { o with detune := rnd32 (val c.operand / 2) }) p fun _ _ => rfl
  case oscSetOctave c =>
    exact oscCommand_answersTwice fun p =>
      ruleIdempotent_refreshEff (write := fun o => { o with octave := c.operand }) p fun _ _ => rfl
  case oscSetModDepth c =>
    exact oscCommand_answersTwice fun _ => ruleIdempotent_checked (write := fun o => { o with depth := c.operand })
      fun _ => rfl
  case oscSetSeed c =>
    exact oscCommand_answersTwice fun _ => ruleIdempotent_checked (write := fun o => { o with noise := c.operand })
      fun _ => rfl
  case egSetAttack c =>
    exact egCommand_answersTwice (ruleIdempotent_checked (write := fun e => { e with attack := c.operand }) fun _ => rfl)
  case egSetDecay c =>
    exact egCommand_answersTwice (ruleIdempotent_checked (write := fun e => { e with decay := c.operand }) fun _ => rfl)
  case egSetSustain c =>
    exact egCommand_answersTwice (ruleIdempotent_checked (write := fun e => { e with sustain := c.operand }) fun _ => rfl)
  case egSetRelease c =>
    exact egCommand_answersTwice (ruleIdempotent_checked (write := fun e => { e with release := c.operand }) fun _ => rfl)
  case egNoteOn c =>
    exact egCommand_answersTwice (ruleIdempotent_checked (write := fun e => egNoteOn e c.operand) fun _ => rfl)
  case egNoteOff c => exact egCommand_answersTwice (ruleIdempotent_ok (write := egNoteOff) fun _ => rfl)
  case vcfSetCutoff c =>
    exact vcfCommand_answersTwice (ruleIdempotent_checked (write := fun f => { f with cutoff := c.operand }) fun _ => rfl)
  case vcfSetResonance c =>
    exact vcfCommand_answersTwice
      (ruleIdempotent_checked (write := fun f => { f with resonance := c.operand }) fun _ => rfl)
  case vcfSetModVolume c =>
    exact vcfCommand_answersTwice (ruleIdempotent_checked (write := fun f => { f with modvol := c.operand }) fun _ => rfl)
  case vcaSetModVolume c =>
    exact vcaCommand_answersTwice (ruleIdempotent_checked (write := fun a => { a with modvol := c.operand }) fun _ => rfl)
  case voiceNoteOn c =>
    exact voiceCommand_answersTwice (select := selectVoice) rfl fun p _ =>
      ruleIdempotent_checked (voiceNoteOnEffect_idempotent p (keyOperand c) (velocityOperand c))
  case voiceNoteOff c =>
    exact voiceCommand_answersTwice (select := selectVoice) rfl fun _ _ =>
      ruleIdempotent_ok (write := voiceNoteOffEffect) fun _ => rfl
  case decClearCounters c =>
    exact decoderCommand_answersTwice (rule := fun _ D => .ok { D with frameErr := 0#32, parityErr := 0#32 } 0#32)
      (ruleIdempotent_ok fun _ => rfl)
  all_goals cases hwrite

theorem readRegReply_past_end {β : Type} {regs : List (BitVec 32)} {index : BitVec 32}
    (h : regs.length ≤ index.toNat) (x : β) : readRegReply regs index x = .violation := by
  rw [readRegReply, List.getElem?_eq_none h]

theorem readRegReply_inside {β : Type} {regs : List (BitVec 32)} {index w : BitVec 32}
    (h : regs[index.toNat]? = some w) (x : β) : readRegReply regs index x = .ok x w := by
  rw [readRegReply, h]

theorem exec_readReg_voice {c : CommandFields} (h : unitOfCode c.unit ≠ some .dec) (s : State) :
    exec (.readReg c) s =
      voiceCommand selectAny .regidx c s fun u V => readRegReply (voiceUnitRegs V u) c.operand V := by
  rw [exec]
  unfold execReadReg
  split
  · contradiction
  · rfl

theorem exec_readReg_decoder {c : CommandFields} (h : unitOfCode c.unit = some .dec) (s : State) :
    exec (.readReg c) s =
      decoderCommand selectDec .regidx c s fun _ D => readRegReply (decRegs D) c.operand D := by
  rw [exec, execReadReg, h]

/-- Settles O58: the unit decides which template reads, and the index whether there is a word. -/
theorem readRegResult : Obligations.ReadRegResult := by
  refine ⟨fun c s u V h => ?voice, fun c s D h => ?decoder⟩
  case voice =>
    have hne : unitOfCode c.unit ≠ some .dec := by
      rw [h.1]
      exact fun hu => h.2.1 (Option.some.inj hu)
    rw [exec_readReg_voice hne]
    exact ⟨voiceCommand_reserved h rfl, fun hr hlen => voiceCommand_violation h rfl hr (readRegReply_past_end hlen V),
      fun hr w hw => voiceCommand_ok h rfl hr (readRegReply_inside hw V)⟩
  case decoder =>
    rw [exec_readReg_decoder h.1]
    refine ⟨decoderCommand_reserved h, fun hr hlen => ?_, fun hr w hw => decoderCommand_ok h hr (readRegReply_inside hw D)⟩
    rw [decoderCommand_of_reached h selectDec_dec, hr, if_neg Bool.false_ne_true, readRegReply_past_end hlen]

end Sys2Proof.Machine
end

section
/-! PROOFS. Rounding keeps bounds that are word values (R17), and EFF as one rounding (R37, R150, R151). -/

namespace Sys2Proof.Machine

/-- A value bounds the rounded words of the rationals below it. -/
theorem val_rnd32_le_val {q : Rat} {v : F32} (hv : f32Finite v = true) (hq : |q| < overflowBound) (h : q ≤ val v) :
    val (rnd32 q) ≤ val v := by
  by_contra hcon
  have hnear := (rnd32_nearest hq hv).1
  rw [abs_of_nonpos (by linarith), abs_of_nonpos (by linarith)] at hnear
  linarith

/-- Between two word values there is no overflow. -/
theorem abs_lt_overflowBound_of_mem {a b : F32} {q : Rat} (ha : f32Finite a = true) (hb : f32Finite b = true)
    (haq : val a ≤ q) (hqb : q ≤ val b) : |q| < overflowBound := by
  have hlow := (abs_lt.mp (abs_val_lt_overflowBound ha)).1
  have hhigh := (abs_lt.mp (abs_val_lt_overflowBound hb)).2
  exact abs_lt.mpr ⟨hlow.trans_le haq, hqb.trans_lt hhigh⟩

/-- Settles O22: rounding is monotone at the two bounds, which it keeps. -/
theorem rnd32KeepsBounds : Obligations.Rnd32KeepsBounds := by
  intro a b q ha hb haq hqb
  have hbound := abs_lt_overflowBound_of_mem ha hb haq hqb
  exact finiteWith_iff.mpr ⟨f32Finite_rnd32 hbound, val_le_val_rnd32 ha hbound haq, val_rnd32_le_val hb hbound hqb⟩

/-- Rounding a rational between two word values gives a word that passes their range check. -/
theorem f32Within_rnd32 {a b : F32} {lo hi q : Rat} (ha : f32Within a lo lo = true) (hb : f32Within b hi hi = true)
    (hlo : lo ≤ q) (hhi : q ≤ hi) : f32Within (rnd32 q) lo hi = true := by
  obtain ⟨hafin, hale, hage⟩ := f32Within_iff.mp ha
  obtain ⟨hbfin, hble, hbge⟩ := f32Within_iff.mp hb
  obtain rfl := le_antisymm hale hage
  obtain rfl := le_antisymm hble hbge
  exact f32Within_iff_finiteWith.mpr (rnd32KeepsBounds a b q hafin hbfin hlo hhi)

theorem pow2_eq_zpow (k : Int) : pow2 k = (2 : Rat) ^ k := by
  rw [pow2]
  split
  · push_cast
    rw [← zpow_natCast, Int.toNat_of_nonneg ‹_›]
  · push_cast
    rw [← zpow_natCast, Int.toNat_of_nonneg (by omega), zpow_neg, one_div, inv_inv]

/-- The product as R150 writes it. -/
theorem effOf_eq (p : Params) (base detune : F32) (octave : BitVec 32) :
    effOf p base detune octave = rnd32 (val base * val (exp2Of p detune) * (2 : Rat) ^ octave.toInt) := by
  rw [effOf, pow2_eq_zpow]

/-- The two words of value 0. -/
theorem eq_zero_of_val_eq_zero {w : F32} (hw : f32Finite w = true) (h : val w = 0) :
    w = 0x00000000#32 ∨ w = 0x80000000#32 := by
  have hquanta : quanta (magnitudeBits w) = quanta 0 := by
    have habs := abs_val hw
    rw [h, abs_zero, eq_comm, div_eq_zero_iff] at habs
    exact_mod_cast habs.resolve_right (by positivity)
  have hbits : magnitudeBits w = 0 := quanta_strictMono.injective hquanta
  cases hs : w.msb with
  | false => exact .inl (eq_of_msb_of_magnitudeBits hs hbits)
  | true => exact .inr (eq_of_msb_of_magnitudeBits hs hbits)

/-- EXP2 of a DETUNE of value 0 is 1.0 (R24). -/
theorem exp2Of_of_val_eq_zero {p : Params} (hp : exp2AtZero p = true) {x : F32} (hx : FiniteWith x fun d => d = 0) :
    exp2Of p x = plusOne := by
  obtain ⟨hfin, hval⟩ := finiteWith_iff.mp hx
  simp only [exp2AtZero, Bool.and_eq_true, beq_iff_eq] at hp
  obtain ⟨hplus, hminus⟩ := hp
  obtain rfl | rfl := eq_zero_of_val_eq_zero hfin hval
  · exact hplus
  · exact hminus

/-- With a DETUNE of value 0 the octave is the only factor (R151). -/
theorem effOf_of_detune_zero {p : Params} (hp : exp2AtZero p = true) {detune : F32}
    (hdetune : FiniteWith detune fun d => d = 0) (base : F32) (octave : BitVec 32) :
    effOf p base detune octave = rnd32 (val base * (2 : Rat) ^ octave.toInt) := by
  rw [effOf_eq, exp2Of_of_val_eq_zero hp hdetune, val_plusOne, mul_one]

theorem effOf_of_detune_octave_zero {p : Params} (hp : exp2AtZero p = true) {base detune : F32}
    (hbase : FiniteWith base fun b => 0 < b) (hdetune : FiniteWith detune fun d => d = 0) :
    effOf p base detune 0#32 = base := by
  obtain ⟨hfin, hpos⟩ := finiteWith_iff.mp hbase
  rw [effOf_of_detune_zero hp hdetune, show (0#32).toInt = 0 from rfl, zpow_zero, mul_one, rnd32_val hfin hpos.ne']

/-- A significand of 24 bits in a binade below 2^128 is the value of a word, so rounding keeps it. -/
theorem rnd32_binade {m j : Nat} (hm : m < 2 ^ 24) (hlt : m * 2 ^ j < 2 ^ 24 * 2 ^ 253) :
    f32Finite (rnd32 ((m * 2 ^ j : Nat) / 2 ^ 149)) = true ∧
    val (rnd32 ((m * 2 ^ j : Nat) / 2 ^ 149)) = (m * 2 ^ j : Nat) / 2 ^ 149 := by
  have hpos : (0 : Rat) < 2 ^ 149 := by positivity
  have hle : m * 2 ^ j ≤ (2 ^ 24 - 1) * 2 ^ 253 := by
    rcases Nat.le_total j 253 with hj | hj
    · exact Nat.mul_le_mul (Nat.le_pred_of_lt hm) (Nat.pow_le_pow_right (by decide) hj)
    · have hsplit : m * 2 ^ j = m * 2 ^ (j - 253) * 2 ^ 253 := by
        rw [mul_assoc, ← pow_add, Nat.sub_add_cancel hj]
      rw [hsplit] at hlt ⊢
      exact Nat.mul_le_mul_right _ (Nat.le_pred_of_lt (Nat.lt_of_mul_lt_mul_right hlt))
  set q : Rat := (m * 2 ^ j : Nat) / 2 ^ 149 with hq
  have habs : |q| = q := abs_of_nonneg (by positivity)
  have hquanta : |q| * 2 ^ 149 = (((m * 2 ^ j : Nat) : Int) : Rat) := by
    rw [habs, hq, div_mul_cancel₀ _ hpos.ne', Int.cast_natCast]
  have hbound : |q| < overflowBound := by
    rw [habs, hq, div_lt_iff₀ hpos, overflowBound_quanta]
    calc ((m * 2 ^ j : Nat) : Rat) ≤ (((2 ^ 24 - 1) * 2 ^ 253 : Nat) : Rat) := Nat.cast_le.mpr hle
      _ < (2 ^ 25 - 1) * 2 ^ 252 := by norm_num
  obtain ⟨k, n, h, hfinite, -, hval⟩ := rnd32_roundsTo hbound
  rw [hquanta] at h
  have hdvd : (2 ^ k : Int) ∣ ((m * 2 ^ j : Nat) : Int) := by
    rcases h.lower with rfl | hlower
    · exact one_dvd _
    · have hbinade : 2 ^ (k + 23) < 2 ^ (24 + j) := by
        rw [pow_add 2 24]
        exact lt_of_le_of_lt (by exact_mod_cast hlower) (Nat.mul_lt_mul_of_pos_right hm (by positivity))
      have hk := (Nat.pow_lt_pow_iff_right (by decide)).mp hbinade
      exact_mod_cast Dvd.dvd.mul_left (pow_dvd_pow 2 (show k ≤ j by omega)) m
  refine ⟨hfinite, ?_⟩
  rw [hval, h.eq_of_dvd hdvd, ← hquanta, mul_div_cancel_right₀ _ hpos.ne', signFactor_mul_abs]

/-- A positive word times a power of two is exact while the product stays in the normal range (R151). -/
theorem rnd32_val_mul_zpow {w : F32} (hw : FiniteWith w fun b => 0 < b) {e : Int}
    (hlow : 1 / 2 ^ 126 ≤ val w * (2 : Rat) ^ e) (hhigh : val w * (2 : Rat) ^ e < 2 ^ 128) :
    FiniteWith (rnd32 (val w * (2 : Rat) ^ e)) fun q => q = val w * (2 : Rat) ^ e := by
  obtain ⟨hfin, hpos⟩ := finiteWith_iff.mp hw
  obtain ⟨k, m, hm, hk, hbits⟩ := exists_binade (magnitudeBits w)
  have hval : val w = m * 2 ^ k / 2 ^ 149 := by
    rw [← abs_of_pos hpos, abs_val hfin, hbits, quanta_binade hm.le hk]
    push_cast
    rfl
  have hprod : val w * (2 : Rat) ^ e = m * (2 : Rat) ^ (k + e) / 2 ^ 149 := by
    rw [hval, zpow_add₀ two_ne_zero, zpow_natCast]
    ring
  have hm' : (m : Rat) < 2 ^ 24 := by exact_mod_cast hm
  have hnonneg : 0 ≤ k + e := by
    by_contra hneg
    have hhalf : (2 : Rat) ^ (k + e) ≤ 2 ^ (-1 : Int) := zpow_le_zpow_right₀ one_le_two (by omega)
    have hsmall : (m : Rat) * 2 ^ (k + e) < 2 ^ 24 * 2 ^ (-1 : Int) :=
      mul_lt_mul hm' hhalf (by positivity) (by positivity)
    rw [hprod, le_div_iff₀ (by positivity)] at hlow
    norm_num at hlow hsmall
    linarith
  obtain ⟨j, hj⟩ := Int.eq_ofNat_of_zero_le hnonneg
  have hnat : val w * (2 : Rat) ^ e = (m * 2 ^ j : Nat) / 2 ^ 149 := by
    rw [hprod, hj]
    push_cast
    rw [zpow_natCast]
  rw [hnat] at hhigh ⊢
  have hlt : ((m * 2 ^ j : Nat) : Rat) < ((2 ^ 24 * 2 ^ 253 : Nat) : Rat) := by
    rw [div_lt_iff₀ (by positivity)] at hhigh
    exact hhigh.trans_eq (by norm_num)
  exact finiteWith_iff.mpr (rnd32_binade hm (Nat.cast_lt.mp hlt))

/-- Settles O25: the product in full, without the factor 1, and exact in the normal range. -/
theorem effFormula : Obligations.EffFormula := by
  refine ⟨effOf_eq, fun p base detune hp hbase hdetune => effOf_of_detune_octave_zero hp hbase hdetune,
    fun p base detune octave hp hbase hdetune hlow hhigh => ?exact, fun p o k hoctave heff => ?restore⟩
  case exact =>
    rw [effOf_of_detune_zero hp hdetune]
    exact rnd32_val_mul_zpow hbase hlow hhigh
  case restore =>
    obtain ⟨wave, base, eff, detune, octave, depth, phase, out, noise⟩ := o
    simp only [Osc.refreshEff] at hoctave heff ⊢
    rw [heff, hoctave]

/-- A positive rational is rounded to +0.0 exactly when it is at most 2^-150, half of the least word: the tie goes to
the even 0 (R17). -/
theorem rnd32_eq_zero_iff {q : Rat} (hq : 0 < q) : rnd32 q = 0x00000000#32 ↔ q ≤ 1 / 2 ^ 150 := by
  have hhalf : q ≤ 1 / 2 ^ 150 ↔ |q| * 2 ^ 149 ≤ 1 / 2 := by
    rw [abs_of_pos hq]
    constructor <;> intro h <;> linarith
  obtain ⟨k, n, h, hbits⟩ := magnitudeBits_rnd32_roundsTo q
  have hzero : rnd32 q = 0x00000000#32 ↔ k = 0 ∧ n = 0 := by
    have hmsb : (rnd32 q).msb = (0x00000000#32).msb := by
      rw [msb_rnd32, decide_eq_false (by linarith)]
      rfl
    have hword : rnd32 q = 0x00000000#32 ↔ magnitudeBits (rnd32 q) = magnitudeBits 0x00000000#32 :=
      ⟨fun heq => congrArg magnitudeBits heq, eq_of_msb_of_magnitudeBits hmsb⟩
    rw [hword, hbits, show magnitudeBits 0x00000000#32 = 0 from rfl]
    omega
  rw [hzero, hhalf]
  constructor
  · rintro ⟨rfl, rfl⟩
    simpa using (abs_le.mp h.near).2
  · intro hle
    have hk : k = 0 := by
      refine h.lower.resolve_right fun hlower => ?_
      have : (1 : Rat) ≤ 2 ^ (k + 23) := one_le_pow₀ one_le_two
      linarith
    subst hk
    have hnear := (abs_le.mp h.near).1
    have heven := h.even
    rw [pow_zero, mul_one] at hnear heven
    refine ⟨rfl, ?_⟩
    have hn1 : (n : Rat) ≤ 1 := by linarith
    have hn1' : n ≤ 1 := by exact_mod_cast hn1
    obtain rfl | rfl : n = 0 ∨ n = 1 := by omega
    · rfl
    · norm_num at hnear
      have hone : |q| * 2 ^ 149 = 1 / 2 := le_antisymm hle (by linarith)
      rw [hone] at heven
      norm_num at heven

/-- A positive rational is rounded to +∞ exactly from the overflow bound on (R17). -/
theorem rnd32_eq_plusInf_iff {q : Rat} (hq : 0 < q) : rnd32 q = plusInf ↔ overflowBound ≤ q := by
  refine ⟨fun heq => ?_, rnd32_of_overflowBound_le⟩
  by_contra hlt
  exact ne_plusInf_of_finite (f32Finite_rnd32 (by rwa [abs_of_pos hq, ← not_le])) heq

/-- Everything else is rounded to a finite word of value at least 0. -/
theorem rnd32_of_pos {q : Rat} (hq : 0 < q) : rnd32 q = plusInf ∨ FiniteWith (rnd32 q) fun r => 0 ≤ r := by
  rcases le_or_gt overflowBound q with hle | hlt
  · exact .inl (rnd32_of_overflowBound_le hle)
  · have hbound : |q| < overflowBound := by rwa [abs_of_pos hq]
    have hnonneg := val_le_val_rnd32 (v := plusZero) (by decide) hbound (by rw [val_plusZero]; exact hq.le)
    rw [val_plusZero] at hnonneg
    exact .inr (finiteWith_iff.mpr ⟨f32Finite_rnd32 hbound, hnonneg⟩)

/-- A rounded rational is no NaN: it is finite or an infinity of its sign (R17). -/
theorem f32Value_rnd32_cases (q : Rat) :
    f32Value (rnd32 q) = .finite (val (rnd32 q)) ∨ (0 < q ∧ rnd32 q = plusInf) ∨ (q < 0 ∧ rnd32 q = minusInf) := by
  have hbound : (0 : Rat) < overflowBound := by norm_num [overflowBound]
  rcases lt_or_ge |q| overflowBound with hlt | hge
  · exact .inl (f32Value_of_finite (f32Finite_rnd32 hlt))
  · rcases le_abs.mp hge with hle | hle
    · exact .inr (.inl ⟨hbound.trans_le hle, rnd32_of_overflowBound_le hle⟩)
    · exact .inr (.inr ⟨by linarith, rnd32_of_le_neg_overflowBound (by linarith)⟩)

/-- A rounded frequency holds the sample exactly when it is not above +0.0 (R154). -/
theorem isHeld_rnd32 (q : Rat) : isHeld (rnd32 q) = !f32Lt plusZero (rnd32 q) := by
  have hzero : f32Value plusZero = .finite 0 := f32Value_eq_finite.mpr ⟨by decide, val_plusZero⟩
  rw [f32Lt, hzero, isHeld]
  rcases f32Value_rnd32_cases q with h | ⟨-, h⟩ | ⟨-, h⟩
  · rw [h]
    simp [valueLt, ← decide_not]
  · rw [h, plusInf, f32Value_plusInf]
    rfl
  · rw [h, minusInf, f32Value_minusInf]
    rfl

/-- A rational of at most 0 is rounded to a frequency that holds. -/
theorem isHeld_rnd32_of_nonpos {q : Rat} (hq : q ≤ 0) : isHeld (rnd32 q) = true := by
  rcases f32Value_rnd32_cases q with h | ⟨hpos, -⟩ | ⟨-, h⟩
  · rcases lt_or_ge |q| overflowBound with hlt | hge
    · refine isHeld_of_nonpos (finiteWith_iff.mpr ⟨f32Finite_rnd32 hlt, ?_⟩)
      have hle := val_rnd32_le_val (v := plusZero) (by decide) hlt (by rw [val_plusZero]; exact hq)
      rwa [val_plusZero] at hle
    · rw [rnd32_of_le_neg_overflowBound (by rw [abs_of_nonpos hq] at hge; linarith)]
      decide
  · exact absurd hpos (not_lt.mpr hq)
  · rw [h]
    decide

/-- The exact product behind EFF is positive, and not below 2^-150 for a BASE of at least 2^-146 (R37). -/
theorem effProduct_pos {p : Params} (hp : Exp2Legal p) {base detune : F32} {octave : BitVec 32}
    (hbase : FiniteWith base fun b => 0 < b) (hdetune : FiniteWith detune fun d => -1 / 2 ≤ d ∧ d ≤ 1 / 2)
    (hoctave : -3 ≤ octave.toInt) :
    0 < val base * val (exp2Of p detune) * (2 : Rat) ^ octave.toInt ∧
    (1 / 2 ^ 146 ≤ val base → 1 / 2 ^ 150 < val base * val (exp2Of p detune) * (2 : Rat) ^ octave.toInt) := by
  obtain ⟨-, -, hrange, -⟩ := hp
  obtain ⟨hexpPos, hexp, -⟩ := hrange detune (f32Within_iff_finiteWith.mpr hdetune)
  obtain ⟨-, hexpPos⟩ := f32FinitePositive_iff.mp hexpPos
  obtain ⟨-, hbasePos⟩ := finiteWith_iff.mp hbase
  have hzpow : (2 : Rat) ^ (-3 : Int) ≤ 2 ^ octave.toInt := zpow_le_zpow_right₀ one_le_two hoctave
  refine ⟨mul_pos (mul_pos hbasePos hexpPos) (by positivity), fun hle => ?_⟩
  have hhalf : (1 / 2 : Rat) < val 0x3F3504F3#32 := by decide +kernel
  calc (1 / 2 ^ 150 : Rat) = 1 / 2 ^ 146 * (1 / 2) * 2 ^ (-3 : Int) := by norm_num
    _ < 1 / 2 ^ 146 * val 0x3F3504F3#32 * 2 ^ (-3 : Int) := by gcongr
    _ ≤ val base * val (exp2Of p detune) * 2 ^ octave.toInt := by gcongr

/-- With EFF +0.0 the modulation alone is the frequency (R153). -/
theorem instantFrequency_of_eff_zero {o : Osc} (ho : o.eff = plusZero) (l : F32) :
    instantFrequency o (some l) = rnd32 (val l * val o.depth * 20) := by
  have hne : ¬o.eff = plusInf := by rw [ho]; decide
  rw [instantFrequency, if_neg hne, ho, val_plusZero, zero_add]

/-- Settles O26: EFF by the sign and the size of its product; the advance by the sign of the modulation. -/
theorem effBounds : Obligations.EffBounds := by
  refine ⟨fun p base detune octave hp hbase hdetune hlow _ => ?bounds,
    fun p o ho => ⟨?plain, fun l hl => ?held, fun l => ?moved⟩⟩
  case bounds =>
    intro q eff
    obtain ⟨hpos, hbig⟩ := effProduct_pos hp hbase hdetune hlow
    have heff : eff = rnd32 q := effOf_eq p base detune octave
    rw [heff]
    exact ⟨rnd32_eq_plusInf_iff hpos, rnd32_eq_zero_iff hpos,
      fun hle => (rnd32_eq_zero_iff hpos).not.mpr (not_le.mpr (hbig hle)), rnd32_of_pos hpos⟩
  case plain =>
    have hheld : isHeld (instantFrequency o none) = true := by
      rw [instantFrequency, ho]
      decide +kernel
    rw [oscStep, if_pos hheld]
  case held =>
    have hheld : isHeld (instantFrequency o (some l)) = true := by
      rw [instantFrequency_of_eff_zero ho]
      exact isHeld_rnd32_of_nonpos (by linarith)
    rw [oscStep, if_pos hheld]
  case moved =>
    rw [oscStep, instantFrequency_of_eff_zero ho, isHeld_rnd32]
    show _ = if f32Lt plusZero _ = true then _ else o
    cases f32Lt plusZero (rnd32 (val l * val o.depth * 20)) <;> rfl

end Sys2Proof.Machine
end

section
/-! PROOFS. The default EXP2 against the real power of two (R24): its polynomial is the exponential series cut at 47
terms, on a constant within 2^-212 of ln 2. -/

namespace Sys2Proof.Machine

/-- A rational bound on a magnitude, as a real one. -/
theorem abs_cast_le {q r : Rat} (h : |q| ≤ r) : |(q : ℝ)| ≤ (r : ℝ) := by
  rw [← Rat.cast_abs]
  exact Rat.cast_le.mpr h

/-- A Horner evaluation is a partial sum of the exponential series. -/
theorem expHorner_eq_sum (n : Nat) (z acc : Rat) :
    expHorner n z acc = ∑ m ∈ Finset.range n, z ^ m / (m.factorial : Rat) + z ^ n / (n.factorial : Rat) * acc := by
  induction n generalizing acc with
  | zero => simp [expHorner]
  | succ n ih =>
    have hn : ((n : Rat) + 1) ≠ 0 := by positivity
    have hfact : (n.factorial : Rat) ≠ 0 := by positivity
    rw [expHorner, ih, Finset.sum_range_succ, Nat.factorial_succ]
    push_cast
    field_simp
    ring

/-- The polynomial of the default EXP2, as a real number. -/
theorem exp2Rational_cast (x : Rat) :
    ((exp2Rational x : Rat) : ℝ) =
      ∑ m ∈ Finset.range 47, ((x * ln2Approx : Rat) : ℝ) ^ m / (m.factorial : ℝ) := by
  rw [exp2Rational, expHorner_eq_sum, mul_one, ← Finset.sum_range_succ]
  push_cast
  rfl

/-- The first n terms of the series of ln 2 at 1/2. -/
def ln2Sum : Nat → Rat
  | 0 => 0
  | n + 1 => ln2Sum n + 1 / ((2 ^ (n + 1) * (n + 1) : Nat) : Rat)

theorem ln2Sum_cast (n : Nat) :
    ((ln2Sum n : Rat) : ℝ) = ∑ i ∈ Finset.range n, (1 / 2 : ℝ) ^ (i + 1) / ((i : ℝ) + 1) := by
  induction n with
  | zero => simp [ln2Sum]
  | succ n ih =>
    rw [ln2Sum, Finset.sum_range_succ, ← ih]
    push_cast
    rw [one_div_pow, div_div]

theorem abs_ln2Sum_sub_log_two_le (n : Nat) : |((ln2Sum n : Rat) : ℝ) - Real.log 2| ≤ (1 / 2) ^ n := by
  have hhalf : |(1 / 2 : ℝ)| = 1 / 2 := abs_of_pos (by norm_num)
  have hlog : Real.log (1 - 1 / 2) = -Real.log 2 := by
    rw [← Real.log_inv]
    norm_num
  have h := Real.abs_log_sub_add_sum_range_le (x := 1 / 2) (by rw [hhalf]; norm_num) n
  rw [← ln2Sum_cast, hlog, ← sub_eq_add_neg, hhalf] at h
  refine h.trans_eq ?_
  rw [pow_succ]
  ring

theorem abs_ln2Approx_sub_ln2Sum_le : |ln2Approx - ln2Sum 216| ≤ 1 / 2 ^ 213 := by decide +kernel

/-- The constant of the default EXP2 is that close to ln 2. -/
theorem abs_ln2Approx_sub_log_two_le : |((ln2Approx : Rat) : ℝ) - Real.log 2| ≤ 1 / 2 ^ 212 := by
  have hsum : |((ln2Approx : Rat) : ℝ) - ((ln2Sum 216 : Rat) : ℝ)| ≤ 1 / 2 ^ 213 := by
    simpa using abs_cast_le abs_ln2Approx_sub_ln2Sum_le
  calc |((ln2Approx : Rat) : ℝ) - Real.log 2|
      ≤ |((ln2Approx : Rat) : ℝ) - ((ln2Sum 216 : Rat) : ℝ)| + |((ln2Sum 216 : Rat) : ℝ) - Real.log 2| :=
        abs_sub_le _ _ _
    _ ≤ 1 / 2 ^ 213 + (1 / 2) ^ 216 := add_le_add hsum (abs_ln2Sum_sub_log_two_le 216)
    _ ≤ 1 / 2 ^ 212 := by norm_num

/-- The exponential moves by no more than six times a small change of its argument, up to 1. -/
theorem abs_exp_sub_exp_le {a b : ℝ} (hb : b ≤ 1) (hab : |a - b| ≤ 1) : |Real.exp a - Real.exp b| ≤ 6 * |a - b| := by
  have hexp : Real.exp b ≤ 3 := (Real.exp_le_exp.mpr hb).trans Real.exp_one_lt_three.le
  calc |Real.exp a - Real.exp b| = Real.exp b * |Real.exp (a - b) - 1| := by
        rw [← abs_of_pos (Real.exp_pos b), ← abs_mul, abs_of_pos (Real.exp_pos b), mul_sub, ← Real.exp_add,
          add_sub_cancel, mul_one]
    _ ≤ 3 * (2 * |a - b|) := mul_le_mul hexp (Real.abs_exp_sub_one_le hab) (abs_nonneg _) (by norm_num)
    _ = 6 * |a - b| := by ring

/-- What the cut series leaves out at an argument of at most 0.35. -/
theorem abs_exp_sub_sum_le {z : ℝ} (hz : |z| ≤ 7 / 20) :
    |Real.exp z - ∑ m ∈ Finset.range 47, z ^ m / (m.factorial : ℝ)| ≤ 1 / 2 ^ 202 := by
  have hbound := Real.exp_bound (x := z) (by linarith) (n := 47) (by decide)
  have hpow : |z| ^ 47 ≤ (7 / 20) ^ 47 := pow_le_pow_left₀ (abs_nonneg z) hz 47
  calc _ ≤ |z| ^ 47 * ((Nat.succ 47 : ℝ) / ((Nat.factorial 47 : ℝ) * 47)) := hbound
    _ ≤ (7 / 20) ^ 47 * ((Nat.succ 47 : ℝ) / ((Nat.factorial 47 : ℝ) * 47)) := by gcongr
    _ ≤ 1 / 2 ^ 202 := by norm_num [Nat.factorial]

/-- The polynomial is within 2^-200 of the real power of two (R24). -/
theorem abs_exp2Rational_sub_rpow_le {x : Rat} (h1 : -1 / 2 ≤ x) (h2 : x ≤ 1 / 2) :
    |((exp2Rational x : Rat) : ℝ) - (2 : ℝ) ^ ((x : Rat) : ℝ)| ≤ 1 / 2 ^ 200 := by
  set z : ℝ := ((x * ln2Approx : Rat) : ℝ) with hzdef
  have hz : |z| ≤ 7 / 20 := (abs_cast_le (abs_mul_ln2Approx_le h1 h2)).trans_eq (by norm_num)
  have hx : |((x : Rat) : ℝ)| ≤ 1 / 2 := 
    (abs_cast_le (abs_le.mpr ⟨by linarith, h2⟩)).trans_eq (by norm_num)
  have hpower : (2 : ℝ) ^ ((x : Rat) : ℝ) = Real.exp (Real.log 2 * x) := Real.rpow_def_of_pos two_pos _
  have harg : |Real.log 2 * x - z| ≤ 1 / 2 ^ 212 := by
    have hfactor : Real.log 2 * x - z = -((x : ℝ) * ((ln2Approx : ℝ) - Real.log 2)) := by
      rw [hzdef]
      push_cast
      ring
    rw [hfactor, abs_neg, abs_mul]
    calc |(x : ℝ)| * |(ln2Approx : ℝ) - Real.log 2| ≤ 1 * (1 / 2 ^ 212) :=
          mul_le_mul (hx.trans (by norm_num)) abs_ln2Approx_sub_log_two_le (abs_nonneg _) zero_le_one
      _ = 1 / 2 ^ 212 := one_mul _
  have hseries := abs_exp_sub_sum_le hz
  have hexp := abs_exp_sub_exp_le ((le_abs_self z).trans (hz.trans (by norm_num))) (harg.trans (by norm_num))
  rw [exp2Rational_cast, hpower, abs_sub_comm]
  calc _ ≤ |Real.exp (Real.log 2 * x) - Real.exp z| + |Real.exp z - ∑ m ∈ Finset.range 47, z ^ m / (m.factorial : ℝ)| :=
        abs_sub_le _ _ _
    _ ≤ 6 * (1 / 2 ^ 212) + 1 / 2 ^ 202 := add_le_add (hexp.trans (by gcongr)) hseries
    _ ≤ 1 / 2 ^ 200 := by norm_num

/-- Settles O24: the series is cut far below the bound, and so is the constant. -/
theorem exp2DefaultAccuracy : Obligations.Exp2DefaultAccuracy := by
  intro p x hp hx
  obtain ⟨-, h1, h2⟩ := f32Within_iff.mp hx
  refine ⟨?_, abs_exp2Rational_sub_rpow_le h1 h2⟩
  rw [exp2Of, hp]
  rfl

end Sys2Proof.Machine
end

section
/-! PROOFS. At a constant frequency the phase counts modulo the period, and the output repeats with it (R156 to R169). -/

namespace Sys2Proof.Machine

/-- A period is a number of samples from 1 to 2^32 - 1, whatever the frequency (R155). -/
theorem periodOf_mem (p : Params) (f : F32) : 1 ≤ periodOf p f ∧ periodOf p f ≤ maxU32 := by
  rw [periodOf]
  split
  · decide
  · exact ⟨le_clampNat (by decide) _, clampNat_le (by decide) _⟩

theorem currentPhase_lt {o : Osc} {P : Nat} (hP : 0 < P) : currentPhase o P < P := by
  rw [currentPhase]
  split <;> assumption

/-- The phase counts modulo the period (R156). -/
theorem nextPhase_toNat {p P : Nat} (hp : p < P) (hP : P ≤ maxU32) : (nextPhase p P).toNat = (p + 1) % P := by
  rw [maxU32] at hP
  rw [nextPhase, BitVec.toNat_ofNat]
  split
  · rw [Nat.mod_eq_of_lt (by omega), Nat.mod_eq_of_lt ‹_›]
  · obtain rfl : P = p + 1 := by omega
    rw [Nat.zero_mod, Nat.mod_self]

section
variable (par : Params) (o : Osc) (P : Nat)

@[simp] theorem oscSample_wave : (oscSample par o P).wave = o.wave := by
  rw [oscSample]; split <;> rfl
@[simp] theorem oscSample_base : (oscSample par o P).base = o.base := by
  rw [oscSample]; split <;> rfl
@[simp] theorem oscSample_eff : (oscSample par o P).eff = o.eff := by
  rw [oscSample]; split <;> rfl
@[simp] theorem oscSample_detune : (oscSample par o P).detune = o.detune := by
  rw [oscSample]; split <;> rfl
@[simp] theorem oscSample_octave : (oscSample par o P).octave = o.octave := by
  rw [oscSample]; split <;> rfl
@[simp] theorem oscSample_depth : (oscSample par o P).depth = o.depth := by
  rw [oscSample]; split <;> rfl
@[simp] theorem oscSample_phase : (oscSample par o P).phase = nextPhase (currentPhase o P) P := by
  rw [oscSample]; split <;> rfl

/-- An advance changes nothing that the frequency depends on (R153). -/
@[simp] theorem instantFrequency_oscSample (m : Option F32) :
    instantFrequency (oscSample par o P) m = instantFrequency o m := by
  cases m <;> simp [instantFrequency]

end

section
variable {par : Params} {o : Osc} {P : Nat}

theorem waveOut_isSome {wave : Waveform} (h : wave ≠ .noise) (par : Params) (p P : Nat) :
    ∃ w, waveOut par wave p P = some w := by
  cases wave <;> first | exact ⟨_, rfl⟩ | exact absurd rfl h

theorem oscSample_out_of_waveOut {w : F32} (h : waveOut par o.wave (currentPhase o P) P = some w) :
    (oscSample par o P).out = w := by
  simp only [oscSample, h]

/-- The output of the waveforms but noise depends on the phase alone (R158 to R163). -/
theorem oscSample_out_congr {o' : Osc} (hwave : o'.wave = o.wave) (hphase : o'.phase = o.phase)
    (hnoise : o.wave ≠ .noise) : (oscSample par o' P).out = (oscSample par o P).out := by
  obtain ⟨w, hw⟩ := waveOut_isSome hnoise par (currentPhase o P) P
  have hsame : currentPhase o' P = currentPhase o P := by rw [currentPhase, currentPhase, hphase]
  rw [oscSample_out_of_waveOut hw, oscSample_out_of_waveOut (w := w)]
  rw [hwave, hsame, hw]

end

/-- A sample that is not held is taken at the period of the frequency (R157). -/
theorem oscStep_of_not_held {par : Params} {o : Osc} {m : Option F32} (h : isHeld (instantFrequency o m) = false) :
    oscStep par o m = oscSample par o (periodOf par (instantFrequency o m)) := by
  rw [oscStep, h]
  rfl

/-- The oscillator after k advances at one frequency, as far as the next advances depend on it. -/
theorem oscStep_iterate {par : Params} {o : Osc} {m : Option F32} (hheld : isHeld (instantFrequency o m) = false)
    (hphase : o.phase.toNat < periodOf par (instantFrequency o m)) (k : Nat) :
    let x := (fun x => oscStep par x m)^[k] o
    instantFrequency x m = instantFrequency o m ∧ x.wave = o.wave ∧
      x.phase.toNat = (o.phase.toNat + k) % periodOf par (instantFrequency o m) := by
  induction k with
  | zero => exact ⟨rfl, rfl, (Nat.mod_eq_of_lt hphase).symm⟩
  | succ k ih =>
    obtain ⟨hfreq, hwave, hph⟩ := ih
    obtain ⟨hpos, hle⟩ := periodOf_mem par (instantFrequency o m)
    rw [Function.iterate_succ_apply', oscStep_of_not_held (by rw [hfreq, hheld])]
    simp only [instantFrequency_oscSample, oscSample_wave, oscSample_phase, hfreq, hwave, true_and]
    have hcurrent := Nat.mod_lt (o.phase.toNat + k) hpos
    rw [nextPhase_toNat (currentPhase_lt hpos) hle, currentPhase, hph, if_pos hcurrent, Nat.mod_add_mod, add_assoc]

/-- Settles O28: the phase by counting, the output because it is a function of the phase. -/
theorem oscPeriodic : Obligations.OscPeriodic := by
  intro par o m k f P after hf hphase
  have hheld : isHeld (instantFrequency o m) = false := isHeld_of_pos hf
  have hstate (j : Nat) := oscStep_iterate hheld hphase j
  have hsample (j : Nat) : after (j + 1) = oscSample par (after j) P := by
    have hfreq : instantFrequency (after j) m = f := (hstate j).1
    rw [show after (j + 1) = oscStep par (after j) m from Function.iterate_succ_apply' _ _ _,
      oscStep_of_not_held (by rw [hfreq]; exact hheld), hfreq]
  refine ⟨(hstate k).2.2, fun hnoise => ?_⟩
  obtain ⟨-, hwave, hph⟩ := hstate k
  obtain ⟨-, hwave', hph'⟩ := hstate (k + P)
  rw [hsample, hsample]
  refine oscSample_out_congr (hwave'.trans hwave.symm) (BitVec.eq_of_toNat_eq ?_) (hwave ▸ hnoise)
  rw [hph', hph, ← add_assoc, Nat.add_mod_right]

end Sys2Proof.Machine
end

section
/-! PROOFS. The filter keeps its ranges, whatever the coefficients, and keeps silence (R262). -/

namespace Sys2Proof.Machine

/-- A rounded word clamped between finite words is finite and between them: it is no NaN, and an infinity is clamped. -/
theorem clampF32_rnd32_mem {lo hi : F32} (hlo : f32Finite lo = true) (hhi : f32Finite hi = true)
    (hle : val lo ≤ val hi) (q : Rat) :
    FiniteWith (clampF32 (rnd32 q) lo hi) fun r => val lo ≤ r ∧ r ≤ val hi := by
  rcases f32Value_rnd32_cases q with h | ⟨-, h⟩ | ⟨-, h⟩
  · obtain ⟨hfin, -⟩ := f32Value_eq_finite.mp h
    rw [clampF32_of_finite hlo hhi hfin]
    split
    · exact finiteWith_iff.mpr ⟨hlo, le_rfl, hle⟩
    · split
      · exact finiteWith_iff.mpr ⟨hhi, hle, le_rfl⟩
      · exact finiteWith_iff.mpr ⟨hfin, not_lt.mp ‹_›, not_lt.mp ‹_›⟩
  · rw [h, clampF32_of_posInf hlo hhi (x := plusInf) f32Value_plusInf]
    exact finiteWith_iff.mpr ⟨hhi, hle, le_rfl⟩
  · rw [h, clampF32_of_negInf hlo (x := minusInf) f32Value_minusInf]
    exact finiteWith_iff.mpr ⟨hlo, le_rfl, hle⟩

theorem clampF32_plusZero : clampF32 plusZero minusOne plusOne = plusZero := by decide +kernel

/-- The output of the filter is a clamped word (R261). -/
theorem vcfStep_out_mem (p : Params) (c : Vcf) (x l e : F32) :
    FiniteWith (vcfStep p c x l e).out fun q => -1 ≤ q ∧ q ≤ 1 := by
  have h := clampF32_rnd32_mem (lo := minusOne) (hi := plusOne) (by decide) (by decide)
    (by rw [val_minusOne, val_plusOne]; norm_num)
  simp only [val_minusOne, val_plusOne] at h
  exact h _

/-- With nothing in and nothing stored the sum of R260 is zero. -/
theorem biquadOut_of_silence {c : Vcf} (h1 : c.x1 = plusZero) (h2 : c.x2 = plusZero) (h3 : c.y1 = plusZero)
    (h4 : c.y2 = plusZero) (k : BiquadCoeffs) : biquadOut k c plusZero = plusZero := by
  rw [biquadOut, h1, h2, h3, h4, val_plusZero]
  simp

/-- Settles O35: the clamps give the ranges, and the sum of products with zero is zero. -/
theorem vcfProperties : Obligations.VcfProperties := by
  intro p c x l e
  refine ⟨vcfStep_out_mem p c x l e, rfl, fun hmin hmax hle => clampF32_rnd32_mem hmin hmax hle _,
    fun h1 h2 h3 h4 => ?silence⟩
  case silence =>
    obtain ⟨cutoff, resonance, modvol, x1, x2, y1, y2, out⟩ := c
    obtain rfl : x1 = plusZero := h1
    obtain rfl : x2 = plusZero := h2
    obtain rfl : y1 = plusZero := h3
    obtain rfl : y2 = plusZero := h4
    show vcfStep p _ plusZero l e = _
    rw [vcfStep, biquadOut_of_silence rfl rfl rfl rfl, clampF32_plusZero]
    rfl

end Sys2Proof.Machine
end

section
/-! PROOFS. What an accepted command can write to a voice, said once for all commands; each invariant of a voice is then
a case analysis of these writes. -/

namespace Sys2Proof.Machine

/-- What an oscillator can become: by a setter with a legal operand or by an advance (R141 to R148). -/
inductive OscWrite (p : Params) (o : Osc) : Osc → Prop
  | waveform (w : Waveform) : OscWrite p o { o with wave := w }
  | frequency {b : F32} (h : f32FinitePositive b = true) : OscWrite p o (({ o with base := b } : Osc).refreshEff p)
  | pitch (n : Nat) : OscWrite p o (setPitch p n o)
  | detune {d : F32} (h : f32Within d (-1) 1 = true) :
      OscWrite p o (({ o with detune := rnd32 (val d / 2) } : Osc).refreshEff p)
  | octave {k : BitVec 32} (hlow : -3 ≤ k.toInt) (hhigh : k.toInt ≤ 2) :
      OscWrite p o (({ o with octave := k } : Osc).refreshEff p)
  | depth {d : F32} (h : f32Within d 0 1 = true) : OscWrite p o { o with depth := d }
  | seed {n : BitVec 32} (h : n ≠ 0#32) : OscWrite p o { o with noise := n }
  | advance (m : Option F32) : OscWrite p o (oscStep p o m)

/-- What an envelope generator can become by anything but a note-on (R223 to R230). -/
inductive EgWrite (p : Params) (e : Eg) : Eg → Prop
  | attack {t : F32} (h : f32FiniteNonneg t = true) : EgWrite p e { e with attack := t }
  | decay {t : F32} (h : f32FiniteNonneg t = true) : EgWrite p e { e with decay := t }
  | sustain {l : F32} (h : f32Within l 0 1 = true) : EgWrite p e { e with sustain := l }
  | release {t : F32} (h : f32FiniteNonneg t = true) : EgWrite p e { e with release := t }
  | noteOff : EgWrite p e (egNoteOff e)
  | advance : EgWrite p e (egStep p e)

/-- What a setter can make of the filter (R254 to R256). -/
inductive VcfWrite (f : Vcf) : Vcf → Prop
  | cutoff {w : F32} (h : f32FinitePositive w = true) : VcfWrite f { f with cutoff := w }
  | resonance {w : F32} (h : f32Within w 0 1 = true) : VcfWrite f { f with resonance := w }
  | modvol {w : F32} (h : f32Within w 0 1 = true) : VcfWrite f { f with modvol := w }

/-- What the voice a command reaches can become; `starts` tells whether the command can start the amplifier envelope. -/
inductive VoiceWrite (p : Params) (starts : Bool) (V : Voice) : Voice → Prop
  | osc (o : OscId) {x : Osc} (h : OscWrite p (V.osc o) x) : VoiceWrite p starts V (V.setOsc o x)
  | eg (e : EgId) {x : Eg} (h : EgWrite p (V.eg e) x) : VoiceWrite p starts V (V.setEg e x)
  | egNoteOn (e : EgId) {v : F32} (hstarts : e = .vca → starts = true) (h : f32Within v 0 1 = true) :
      VoiceWrite p starts V (V.setEg e (egNoteOn (V.eg e) v))
  | vcf {x : Vcf} (h : VcfWrite V.vcf x) : VoiceWrite p starts V { V with vcf := x }
  | vcfAdvance : VoiceWrite p starts V (stepVcf p V)
  | vcaModVolume {w : F32} (h : f32Within w 0 1 = true) :
      VoiceWrite p starts V { V with vca := { V.vca with modvol := w } }
  | vcaAdvance : VoiceWrite p starts V (stepVca V)
  | mixAdvance : VoiceWrite p starts V (stepMix V)
  | noteOn {key vel : BitVec 8} (hstarts : starts = true) (hkey : key.toNat ≤ 127) (hlow : 1 ≤ vel.toNat)
      (hhigh : vel.toNat ≤ 127) : VoiceWrite p starts V (voiceNoteOnEffect p key vel V)
  | noteOff : VoiceWrite p starts V (voiceNoteOffEffect V)
  | advance : VoiceWrite p starts V (voiceStep p V)

/-- Whatever the rule stores is related to what it found. -/
def RuleWrites {β : Type} (W : β → β → Prop) (rule : β → Reply β) : Prop := ∀ x y d, rule x = .ok y d → W x y

theorem ruleWrites_ok {β : Type} {W : β → β → Prop} {new : β → β} {data : β → BitVec 32} (h : ∀ x, W x (new x)) :
    RuleWrites W fun x => .ok (new x) (data x) := fun x _ _ hok => (Reply.ok.inj hok).1 ▸ h x

/-- A range check that stores has passed. -/
theorem ruleWrites_checked {β : Type} {W : β → β → Prop} {legal : Bool} {new : β → β}
    (h : legal = true → ∀ x, W x (new x)) : RuleWrites W fun x => checked legal (new x) := by
  cases legal with
  | false => exact fun _ _ _ hok => by cases hok
  | true => exact ruleWrites_ok (h rfl)

/-- From s to t at most voice k changes, and that by a write. -/
def WritesVoice (s t : State) (k : Nat) (starts : Bool) : Prop :=
  t.voices = s.voices ∨
  ∃ V W, s.voices[k]? = some V ∧ VoiceWrite s.params starts V W ∧ t.voices = s.voices.set k W

section
variable {c : CommandFields} {s t : State} {fmt : OperandFormat} {starts : Bool}

theorem voiceCommand_writes {α : Type} {select : UnitId → Option α} {rule : α → Voice → Reply Voice}
    (h : voiceCommand select fmt c s rule = .next t)
    (hrule : ∀ u a, unitOfCode c.unit = some u → select u = some a →
      RuleWrites (VoiceWrite s.params starts) (rule a)) : WritesVoice s t c.inst.toNat starts := by
  obtain ⟨st, -, rfl⟩ | ⟨u, a, V, W, d, hu, ha, -, hV, -, hok, rfl⟩ := voiceCommand_cases h
  · exact .inl (s.respond_voices st 0#32)
  · exact .inr ⟨V, W, hV, hrule u a hu ha V W d hok, State.respond_voices _ .ok d⟩

theorem decoderCommand_writes {α : Type} {select : UnitId → Option α} {rule : α → Decoder → Reply Decoder}
    (h : decoderCommand select fmt c s rule = .next t) : WritesVoice s t c.inst.toNat starts := by
  obtain ⟨st, -, rfl⟩ | ⟨_, _, _, D, d, -, -, -, -, -, -, rfl⟩ := decoderCommand_cases h
  · exact .inl (s.respond_voices st 0#32)
  · exact .inl (State.respond_voices _ .ok d)

theorem oscCommand_writes {rule : Osc → Reply Osc} (h : oscCommand fmt c s rule = .next t)
    (hrule : RuleWrites (OscWrite s.params) rule) : WritesVoice s t c.inst.toNat starts := by
  refine voiceCommand_writes h fun u o _ _ V W d hok => ?_
  cases hx : rule (V.osc o) with
  | violation => simp [hx] at hok
  | ok x data =>
    simp only [hx, Reply.ok.injEq] at hok
    obtain ⟨rfl, -⟩ := hok
    exact .osc o (hrule _ x data hx)

theorem egCommand_writes {rule : Eg → Reply Eg} (h : egCommand fmt c s rule = .next t)
    (hrule : RuleWrites (EgWrite s.params) rule) : WritesVoice s t c.inst.toNat starts := by
  refine voiceCommand_writes h fun u e _ _ V W d hok => ?_
  cases hx : rule (V.eg e) with
  | violation => simp [hx] at hok
  | ok x data =>
    simp only [hx, Reply.ok.injEq] at hok
    obtain ⟨rfl, -⟩ := hok
    exact .eg e (hrule _ x data hx)

theorem vcfCommand_writes {rule : Vcf → Reply Vcf} (h : vcfCommand fmt c s rule = .next t)
    (hrule : RuleWrites VcfWrite rule) : WritesVoice s t c.inst.toNat starts := by
  refine voiceCommand_writes h fun u a _ _ V W d hok => ?_
  cases hx : rule V.vcf with
  | violation => simp [hx] at hok
  | ok x data =>
    simp only [hx, Reply.ok.injEq] at hok
    obtain ⟨rfl, -⟩ := hok
    exact .vcf (hrule _ x data hx)

end

/-- A code that selects a waveform stores it (R141). -/
theorem setWaveform_ruleWrites (p : Params) (code : BitVec 3) :
    RuleWrites (OscWrite p) fun o => match waveformOfCode code with
      | none => .violation
      | some w => .ok { o with wave := w } 0#32 := by
  intro x y d hok
  cases hw : waveformOfCode code with
  | none => simp [hw] at hok
  | some w =>
    simp only [hw, Reply.ok.injEq] at hok
    exact hok.1 ▸ .waveform w

/-- EG_NOTE_ON starts the voice when its generator is EG_VCA (R227). -/
theorem startsVoice_egNoteOn {c : CommandFields} {u : UnitId} {e : EgId} (hu : unitOfCode c.unit = some u)
    (he : selectEg u = some e) (hvca : e = .vca) : startsVoice c.inst (.egNoteOn c) = true := by
  have hunit : u = .eg .vca := by
    cases u with
    | eg e' =>
      obtain rfl : e' = e := Option.some.inj he
      rw [hvca]
    | _ => cases he
  simp [startsVoice, hu, hunit]

theorem execEgNoteOn_writes {c : CommandFields} {s t : State} (h : execEgNoteOn c s = .next t) :
    WritesVoice s t c.inst.toNat (startsVoice c.inst (.egNoteOn c)) := by
  refine voiceCommand_writes h fun u e hu he V W d hok => ?_
  cases hlegal : f32Within c.operand 0 1 with
  | false => simp [hlegal] at hok
  | true =>
    simp only [hlegal, checked_true, Reply.ok.injEq] at hok
    exact hok.1 ▸ .egNoteOn e (startsVoice_egNoteOn hu he) hlegal

theorem execVcaSetModVolume_writes {c : CommandFields} {s t : State} {starts : Bool}
    (h : execVcaSetModVolume c s = .next t) : WritesVoice s t c.inst.toNat starts := by
  refine voiceCommand_writes h fun u a _ _ V W d hok => ?_
  cases hlegal : f32Within c.operand 0 1 with
  | false => simp [hlegal] at hok
  | true =>
    simp only [hlegal, checked_true, Reply.ok.injEq] at hok
    exact hok.1 ▸ .vcaModVolume hlegal

/-- A command changes at most the voice of its INST field, and that by a write. -/
theorem exec_writes {i : Instr} {s t : State} (h : exec i s = .next t) :
    WritesVoice s t i.fields.inst.toNat (startsVoice i.fields.inst i) := by
  by_cases hread : isRead i = true
  · obtain ⟨r, hr⟩ := readsChangeNothing i s hread
    obtain rfl := Host.Outcome.next.inj (hr.symm.trans h)
    exact .inl (s.withResponse_voices _ r)
  unfold exec at h
  cases i
  case oscSetWaveform c => exact oscCommand_writes (c := c) h (setWaveform_ruleWrites s.params (waveOperand c))
  case oscSetFrequency c => exact oscCommand_writes (c := c) h (ruleWrites_checked fun hlegal _ => .frequency hlegal)
  case oscSetMidiNote c =>
    exact oscCommand_writes (c := c) ((execOscSetMidiNote_eq c s).symm.trans h) (ruleWrites_ok fun _ => .pitch _)
  case oscSetDetune c => exact oscCommand_writes (c := c) h (ruleWrites_checked fun hlegal _ => .detune hlegal)
  case oscSetOctave c =>
    refine oscCommand_writes (c := c) h (ruleWrites_checked fun hlegal _ => ?_)
    obtain ⟨hlow, hhigh⟩ := (Bool.and_eq_true _ _).mp hlegal
    exact .octave (of_decide_eq_true hlow) (of_decide_eq_true hhigh)
  case oscSetModDepth c => exact oscCommand_writes (c := c) h (ruleWrites_checked fun hlegal _ => .depth hlegal)
  case oscSetSeed c =>
    exact oscCommand_writes (c := c) h (ruleWrites_checked fun hlegal _ => .seed (bne_iff_ne.mp hlegal))
  case oscAdvance c => exact voiceCommand_writes (c := c) h fun _ o _ _ => ruleWrites_ok fun _ => .osc o (.advance _)
  case egSetAttack c => exact egCommand_writes (c := c) h (ruleWrites_checked fun hlegal _ => .attack hlegal)
  case egSetDecay c => exact egCommand_writes (c := c) h (ruleWrites_checked fun hlegal _ => .decay hlegal)
  case egSetSustain c => exact egCommand_writes (c := c) h (ruleWrites_checked fun hlegal _ => .sustain hlegal)
  case egSetRelease c => exact egCommand_writes (c := c) h (ruleWrites_checked fun hlegal _ => .release hlegal)
  case egNoteOn c => exact execEgNoteOn_writes h
  case egNoteOff c => exact egCommand_writes (c := c) h (ruleWrites_ok fun _ => .noteOff)
  case egAdvance c => exact egCommand_writes (c := c) h (ruleWrites_ok fun _ => .advance)
  case vcfSetCutoff c => exact vcfCommand_writes (c := c) h (ruleWrites_checked fun hlegal _ => .cutoff hlegal)
  case vcfSetResonance c => exact vcfCommand_writes (c := c) h (ruleWrites_checked fun hlegal _ => .resonance hlegal)
  case vcfSetModVolume c => exact vcfCommand_writes (c := c) h (ruleWrites_checked fun hlegal _ => .modvol hlegal)
  case vcfAdvance c => exact voiceCommand_writes (c := c) h fun _ _ _ _ => ruleWrites_ok fun _ => .vcfAdvance
  case vcaSetModVolume c => exact execVcaSetModVolume_writes h
  case vcaAdvance c => exact voiceCommand_writes (c := c) h fun _ _ _ _ => ruleWrites_ok fun _ => .vcaAdvance
  case mixAdvance c => exact voiceCommand_writes (c := c) h fun _ _ _ _ => ruleWrites_ok fun _ => .mixAdvance
  case voiceNoteOn c =>
    refine voiceCommand_writes (c := c) h fun _ _ _ _ => ruleWrites_checked fun hlegal _ => ?_
    have hoperands := voiceNoteOn_legal_iff.mp hlegal
    exact .noteOn (beq_self_eq_true c.inst) (by omega) (by omega) (by omega)
  case voiceNoteOff c => exact voiceCommand_writes (c := c) h fun _ _ _ _ => ruleWrites_ok fun _ => .noteOff
  case voiceAdvance c => exact voiceCommand_writes (c := c) h fun _ _ _ _ => ruleWrites_ok fun _ => .advance
  case decByte c | decClearCounters c => exact decoderCommand_writes (c := c) h
  all_goals exact absurd rfl hread

/-- What a step can do to the voices: nothing, a reset of all of them, or a write by the command it takes. -/
theorem step_writes {s t : State} (h : step s = .next t) :
    t.voices = s.voices ∨
    (∃ rest, s.inputs = .reset :: rest ∧ t.voices = resetVoices s.params s.voices.length) ∨
    ∃ p w rest i, s.inputs = .command p w :: rest ∧ decode w = .ok i ∧
      WritesVoice s t i.fields.inst.toNat (startsVoice i.fields.inst i) := by
  match hin : s.inputs with
  | [] =>
    obtain rfl := Host.Outcome.next.inj ((step_idle hin).symm.trans h)
    exact .inl rfl
  | .reset :: rest =>
    obtain rfl := Host.Outcome.next.inj ((step_reset hin).symm.trans h)
    exact .inr (.inl ⟨rest, rfl, rfl⟩)
  | .command p w :: rest =>
    rw [step_command hin] at h
    cases hdecode : decode w with
    | error e =>
      simp only [execWord, hdecode] at h
      obtain rfl := Host.Outcome.next.inj h
      exact .inl (State.respond_voices _ _ _)
    | ok i =>
      simp only [execWord, hdecode] at h
      have hwrites : WritesVoice (s.accept p rest) t i.fields.inst.toNat (startsVoice i.fields.inst i) := exec_writes h
      exact .inr (.inr ⟨p, w, rest, i, rfl, hdecode, hwrites⟩)

end Sys2Proof.Machine
end

section
/-! PROOFS. The invariant of the block (10_state.md): the field ranges of each unit as propositions, and that every write
to a unit keeps them. -/

namespace Sys2Proof.Machine

/-- The legal fields of an oscillator (R35, R37, R39, R40). -/
structure OscInvariant (p : Params) (o : Osc) : Prop where
  base : f32FinitePositive o.base = true
  eff : o.eff = effOf p o.base o.detune o.octave
  detune : f32Within o.detune (-1 / 2) (1 / 2) = true
  octaveLow : -3 ≤ o.octave.toInt
  octaveHigh : o.octave.toInt ≤ 2
  depth : f32Within o.depth 0 1 = true
  phase : o.phase.toNat < 2 ^ 32 - 1
  out : f32Within o.out (-1) 1 = true
  noise : o.noise ≠ 0#32

theorem oscOk_iff {p : Params} {o : Osc} : oscOk p o = true ↔ OscInvariant p o := by
  simp only [oscOk, Bool.and_eq_true, beq_iff_eq, bne_iff_ne, decide_eq_true_eq]
  constructor
  · rintro ⟨⟨⟨⟨⟨⟨⟨⟨hbase, heff⟩, hdetune⟩, hlow⟩, hhigh⟩, hdepth⟩, hphase⟩, hout⟩, hnoise⟩
    exact ⟨hbase, heff, hdetune, hlow, hhigh, hdepth, hphase, hout, hnoise⟩
  · rintro ⟨hbase, heff, hdetune, hlow, hhigh, hdepth, hphase, hout, hnoise⟩
    exact ⟨⟨⟨⟨⟨⟨⟨⟨hbase, heff⟩, hdetune⟩, hlow⟩, hhigh⟩, hdepth⟩, hphase⟩, hout⟩, hnoise⟩

/-- The legal fields of an envelope generator (R42, R236). -/
structure EgInvariant (e : Eg) : Prop where
  level : f32Within e.level 0 1 = true
  attack : f32FiniteNonneg e.attack = true
  decay : f32FiniteNonneg e.decay = true
  sustain : f32Within e.sustain 0 1 = true
  release : f32FiniteNonneg e.release = true
  peak : f32Within e.peak 0 1 = true
  segStart : f32Within e.segStart 0 1 = true

theorem egOk_iff {e : Eg} : egOk e = true ↔ EgInvariant e := by
  simp only [egOk, Bool.and_eq_true]
  constructor
  · rintro ⟨⟨⟨⟨⟨⟨hlevel, hattack⟩, hdecay⟩, hsustain⟩, hrelease⟩, hpeak⟩, hstart⟩
    exact ⟨hlevel, hattack, hdecay, hsustain, hrelease, hpeak, hstart⟩
  · rintro ⟨hlevel, hattack, hdecay, hsustain, hrelease, hpeak, hstart⟩
    exact ⟨⟨⟨⟨⟨⟨hlevel, hattack⟩, hdecay⟩, hsustain⟩, hrelease⟩, hpeak⟩, hstart⟩

/-- The legal fields of the filter (R44, R262). -/
structure VcfInvariant (f : Vcf) : Prop where
  cutoff : f32FinitePositive f.cutoff = true
  resonance : f32Within f.resonance 0 1 = true
  modvol : f32Within f.modvol 0 1 = true
  x1 : f32Within f.x1 (-1) 1 = true
  x2 : f32Within f.x2 (-1) 1 = true
  y1 : f32Within f.y1 (-1) 1 = true
  y2 : f32Within f.y2 (-1) 1 = true
  out : f32Within f.out (-1) 1 = true

theorem vcfOk_iff {f : Vcf} : vcfOk f = true ↔ VcfInvariant f := by
  simp only [vcfOk, Bool.and_eq_true]
  constructor
  · rintro ⟨⟨⟨⟨⟨⟨⟨hcutoff, hresonance⟩, hmodvol⟩, hx1⟩, hx2⟩, hy1⟩, hy2⟩, hout⟩
    exact ⟨hcutoff, hresonance, hmodvol, hx1, hx2, hy1, hy2, hout⟩
  · rintro ⟨hcutoff, hresonance, hmodvol, hx1, hx2, hy1, hy2, hout⟩
    exact ⟨⟨⟨⟨⟨⟨⟨hcutoff, hresonance⟩, hmodvol⟩, hx1⟩, hx2⟩, hy1⟩, hy2⟩, hout⟩

/-- The legal fields of a voice (R35 to R47, R275, R283). -/
structure VoiceInvariant (p : Params) (V : Voice) : Prop where
  osc : ∀ o, OscInvariant p (V.osc o)
  eg : ∀ e, EgInvariant (V.eg e)
  vcf : VcfInvariant V.vcf
  vcaModvol : f32Within V.vca.modvol 0 1 = true
  vcaOut : f32Within V.vca.out (-1) 1 = true
  mixOut : f32Within V.mix.out (-1) 1 = true
  key : V.key.toNat ≤ 127

theorem voiceOk_iff {p : Params} {V : Voice} : voiceOk p V = true ↔ VoiceInvariant p V := by
  simp only [voiceOk, Bool.and_eq_true, decide_eq_true_eq, oscOk_iff, egOk_iff, vcfOk_iff]
  constructor
  · rintro ⟨⟨⟨⟨⟨⟨⟨⟨⟨⟨⟨hvco1, hvco2⟩, hlfoVco⟩, hlfoVcf⟩, hlfoVca⟩, hegVcf⟩, hegVca⟩, hvcf⟩, hmodvol⟩, hout⟩, hmix⟩, hkey⟩
    refine ⟨fun o => ?_, fun e => ?_, hvcf, hmodvol, hout, hmix, hkey⟩
    · cases o <;> assumption
    · cases e <;> assumption
  · rintro ⟨hosc, heg, hvcf, hmodvol, hout, hmix, hkey⟩
    exact ⟨⟨⟨⟨⟨⟨⟨⟨⟨⟨⟨hosc .vco1, hosc .vco2⟩, hosc .lfoVco⟩, hosc .lfoVcf⟩, hosc .lfoVca⟩, heg .vcf⟩, heg .vca⟩, hvcf⟩,
      hmodvol⟩, hout⟩, hmix⟩, hkey⟩

/-- The requirements of R8 that the units rest on. -/
theorem paramsLegal_cases {p : Params} (h : paramsLegal p = true) :
    seedsLegal p = true ∧ exp2AtZero p = true ∧ sineTableLegal p.sineTable = true ∧ noteTableLegal p.noteTable = true := by
  simp only [paramsLegal, Bool.and_eq_true] at h
  obtain ⟨⟨⟨⟨⟨_, hseeds⟩, hexp⟩, hsine⟩, hnote⟩, -⟩ := h
  exact ⟨hseeds, hexp, hsine, hnote⟩

section Rounding

theorem f32Within_rnd32_signed {q : Rat} (hlow : -1 ≤ q) (hhigh : q ≤ 1) : f32Within (rnd32 q) (-1) 1 = true :=
  f32Within_rnd32 (a := minusOne) (b := plusOne) (by decide +kernel) (by decide +kernel) hlow hhigh

theorem f32Within_rnd32_unit {q : Rat} (hlow : 0 ≤ q) (hhigh : q ≤ 1) : f32Within (rnd32 q) 0 1 = true :=
  f32Within_rnd32 (a := plusZero) (b := plusOne) (by decide +kernel) (by decide +kernel) hlow hhigh

theorem f32Within_rnd32_half {q : Rat} (hlow : -1 / 2 ≤ q) (hhigh : q ≤ 1 / 2) :
    f32Within (rnd32 q) (-1 / 2) (1 / 2) = true :=
  f32Within_rnd32 (a := 0xBF000000#32) (b := 0x3F000000#32) (by decide +kernel) (by decide +kernel) hlow hhigh

theorem f32Within_plusZero_unit : f32Within plusZero 0 1 = true := by decide +kernel

end Rounding

section Oscillator
variable {par : Params} {p P : Nat}

theorem plusMinusOne_within (high : Bool) : f32Within (plusMinusOne high) (-1) 1 = true := by
  cases high <;> decide +kernel

theorem sawtooth_within (hp : p < P) : f32Within (rnd32 ((2 * (p : Rat) - P) / P)) (-1) 1 = true := by
  have hP : (0 : Rat) < P := by exact_mod_cast (Nat.zero_le p).trans_lt hp
  have hp' : (p : Rat) < P := by exact_mod_cast hp
  have hp0 : (0 : Rat) ≤ p := Nat.cast_nonneg p
  refine f32Within_rnd32_signed ?_ ?_
  · rw [le_div_iff₀ hP]; linarith
  · rw [div_le_iff₀ hP]; linarith

theorem triangle_rise_within (hp : 2 * p < P) : f32Within (rnd32 ((4 * (p : Rat) - P) / P)) (-1) 1 = true := by
  have hP : (0 : Rat) < P := by exact_mod_cast (Nat.zero_le _).trans_lt hp
  have hp' : 2 * (p : Rat) < P := by exact_mod_cast hp
  have hp0 : (0 : Rat) ≤ p := Nat.cast_nonneg p
  refine f32Within_rnd32_signed ?_ ?_
  · rw [le_div_iff₀ hP]; linarith
  · rw [div_le_iff₀ hP]; linarith

theorem triangle_fall_within (hp : p < P) (h2 : P ≤ 2 * p) :
    f32Within (rnd32 ((3 * (P : Rat) - 4 * p) / P)) (-1) 1 = true := by
  have hP : (0 : Rat) < P := by exact_mod_cast (Nat.zero_le p).trans_lt hp
  have hp' : (p : Rat) < P := by exact_mod_cast hp
  have h2' : (P : Rat) ≤ 2 * p := by exact_mod_cast h2
  refine f32Within_rnd32_signed ?_ ?_
  · rw [le_div_iff₀ hP]; linarith
  · rw [div_le_iff₀ hP]; linarith

theorem sine_within (hsine : sineTableLegal par.sineTable = true) (hp : p < P) :
    f32Within (memReadSine par (p * 360 / P)) (-1) 1 = true := by
  obtain ⟨hlength, hall, -⟩ := (sineTableLegal_iff _).mp hsine
  exact f32Within_iff.mpr (hall _ (List.mem_of_getElem? (sineTable_getElem? (hlength ▸ sineIndex_lt hp))))

/-- The six periodic waveforms stay in [-1, 1] (R168). -/
theorem waveOut_within (hsine : sineTableLegal par.sineTable = true) (hp : p < P) {wave : Waveform} {w : F32}
    (h : waveOut par wave p P = some w) : f32Within w (-1) 1 = true := by
  cases wave with
  | sine => exact Option.some.inj h ▸ sine_within hsine hp
  | square | pulse8 | pulse4 => exact Option.some.inj h ▸ plusMinusOne_within _
  | sawtooth => exact Option.some.inj h ▸ sawtooth_within hp
  | triangle =>
    obtain rfl := Option.some.inj h
    split
    · exact triangle_rise_within ‹_›
    · exact triangle_fall_within hp (not_lt.mp ‹_›)
  | noise => cases h

theorem noiseOut_within (s : BitVec 32) : f32Within (noiseOut s) (-1) 1 = true := by
  obtain ⟨q, hq, -, hlow, hhigh⟩ := noiseOut_exact s
  exact f32Within_iff_finiteWith.mpr ⟨q, hq, hlow, by linarith⟩

theorem oscSample_out_within (hsine : sineTableLegal par.sineTable = true) (o : Osc) (hP : 0 < P) :
    f32Within (oscSample par o P).out (-1) 1 = true := by
  simp only [oscSample]
  split
  · exact waveOut_within hsine (currentPhase_lt hP) ‹_›
  · exact noiseOut_within _

theorem oscSample_noise_ne_zero {o : Osc} (h : o.noise ≠ 0#32) : (oscSample par o P).noise ≠ 0#32 := by
  simp only [oscSample]
  split
  · exact h
  · exact lfsrStep_ne_zero h

/-- The phase stays below the period, and so below 2^32 - 1 (R39). -/
theorem nextPhase_lt (hp : p < P) (hP : P ≤ maxU32) : (nextPhase p P).toNat < 2 ^ 32 - 1 := by
  rw [nextPhase_toNat hp hP]
  exact (Nat.mod_lt _ ((Nat.zero_le p).trans_lt hp)).trans_le hP

theorem OscInvariant.oscStep {o : Osc} (h : OscInvariant par o) (hsine : sineTableLegal par.sineTable = true)
    (m : Option F32) : OscInvariant par (oscStep par o m) := by
  cases hheld : isHeld (instantFrequency o m) with
  | true =>
    rw [Machine.oscStep, if_pos hheld]
    exact h
  | false =>
    obtain ⟨hpos, hle⟩ := periodOf_mem par (instantFrequency o m)
    rw [oscStep_of_not_held hheld]
    refine ⟨?_, ?_, ?_, ?_, ?_, ?_, ?_, oscSample_out_within hsine o hpos, oscSample_noise_ne_zero h.noise⟩
    · simpa using h.base
    · simpa using h.eff
    · simpa using h.detune
    · simpa using h.octaveLow
    · simpa using h.octaveHigh
    · simpa using h.depth
    · rw [oscSample_phase]
      exact nextPhase_lt (currentPhase_lt hpos) hle

/-- Every note below 108 has a positive frequency (R90). -/
theorem memReadNote_pos (hnote : noteTableLegal par.noteTable = true) {n : Nat} (hn : n < 108) :
    f32FinitePositive (memReadNote par n) = true := by
  have hmem := List.mem_of_getElem? (noteTable_getElem? (length_of_noteTableLegal hnote ▸ hn))
  simp only [noteTableLegal, Bool.and_eq_true, List.all_eq_true] at hnote
  obtain ⟨⟨⟨⟨-, hall⟩, -⟩, -⟩, -⟩ := hnote
  exact hall _ hmem

/-- New pitch fields with the EFF they give; EFF stays a variable here, so nothing evaluates it. -/
theorem OscInvariant.withPitch {o : Osc} {b e d k : F32} (h : OscInvariant par o) (hbase : f32FinitePositive b = true)
    (heff : e = effOf par b d k) (hdetune : f32Within d (-1 / 2) (1 / 2) = true) (hlow : -3 ≤ k.toInt)
    (hhigh : k.toInt ≤ 2) : OscInvariant par { o with base := b, eff := e, detune := d, octave := k } :=
  ⟨hbase, heff, hdetune, hlow, hhigh, h.depth, h.phase, h.out, h.noise⟩

theorem OscInvariant.setPitch {o : Osc} (h : OscInvariant par o) (hnote : noteTableLegal par.noteTable = true) (n : Nat) :
    OscInvariant par (setPitch par n o) := by
  rw [Machine.setPitch]
  split
  · exact h.withPitch (memReadNote_pos hnote ‹_›) rfl h.detune h.octaveLow h.octaveHigh
  · exact h

/-- Every write keeps the fields of an oscillator legal. -/
theorem OscWrite.keeps_invariant {o x : Osc} (hp : paramsLegal par = true) (h : OscInvariant par o)
    (hwrite : OscWrite par o x) : OscInvariant par x := by
  obtain ⟨-, -, hsine, hnote⟩ := paramsLegal_cases hp
  cases hwrite with
  | waveform w => exact { h with }
  | frequency hb => exact h.withPitch hb rfl h.detune h.octaveLow h.octaveHigh
  | pitch n => exact h.setPitch hnote n
  | detune hd =>
    obtain ⟨-, hlow, hhigh⟩ := f32Within_iff.mp hd
    exact h.withPitch h.base rfl (f32Within_rnd32_half (by linarith) (by linarith)) h.octaveLow h.octaveHigh
  | octave hlow hhigh => exact h.withPitch h.base rfl h.detune hlow hhigh
  | depth hd => exact { h with depth := hd }
  | seed hn => exact { h with noise := hn }
  | advance m => exact h.oscStep hsine m

end Oscillator

section Envelope
variable {par : Params} {e : Eg}

/-- A point of a line between two levels is a level (R236). -/
theorem linePoint_mem {a b : Rat} {n N : Nat} (ha : 0 ≤ a ∧ a ≤ 1) (hb : 0 ≤ b ∧ b ≤ 1) (hn : n < N) :
    0 ≤ linePoint a b n N ∧ linePoint a b n N ≤ 1 := by
  have hN : (0 : Rat) < N := by exact_mod_cast (Nat.zero_le n).trans_lt hn
  have ht0 : (0 : Rat) ≤ n / N := by positivity
  have ht1 : (n : Rat) / N ≤ 1 := (div_le_one hN).mpr (by exact_mod_cast hn.le)
  obtain ⟨ha0, ha1⟩ := ha
  obtain ⟨hb0, hb1⟩ := hb
  rw [linePoint, mul_div_assoc]
  constructor <;> nlinarith

theorem linePoint_within {a b : Rat} {n N : Nat} (ha : 0 ≤ a ∧ a ≤ 1) (hb : 0 ≤ b ∧ b ≤ 1) (hn : n < N) :
    f32Within (rnd32 (linePoint a b n N)) 0 1 = true :=
  let ⟨hlow, hhigh⟩ := linePoint_mem ha hb hn
  f32Within_rnd32_unit hlow hhigh

theorem level_mem {w : F32} (h : f32Within w 0 1 = true) : 0 ≤ val w ∧ val w ≤ 1 := (f32Within_iff.mp h).2

/-- The level a decay ends at and a sustain holds (R233, R234). -/
theorem EgInvariant.target_mem (h : EgInvariant e) : 0 ≤ val e.sustain * val e.peak ∧ val e.sustain * val e.peak ≤ 1 := by
  obtain ⟨hs0, hs1⟩ := level_mem h.sustain
  obtain ⟨hp0, hp1⟩ := level_mem h.peak
  exact ⟨mul_nonneg hs0 hp0, mul_le_one₀ hs1 hp0 hp1⟩

theorem EgInvariant.target_within (h : EgInvariant e) : f32Within (rnd32 (val e.sustain * val e.peak)) 0 1 = true :=
  f32Within_rnd32_unit h.target_mem.1 h.target_mem.2

/-- A release falls on the line from SEG_START to 0 (R235). -/
theorem EgInvariant.release_within (h : EgInvariant e) {n N : Nat} (hn : n < N) :
    f32Within (rnd32 (val e.segStart * (1 - (n : Rat) / N))) 0 1 = true := by
  have hline : val e.segStart * (1 - (n : Rat) / N) = linePoint (val e.segStart) 0 n N := by
    rw [linePoint]
    ring
  rw [hline]
  exact linePoint_within (level_mem h.segStart) ⟨le_rfl, zero_le_one⟩ hn

/-- A new level in [0, 1]; the level stays a variable here, so nothing evaluates it. -/
theorem EgInvariant.withLevel (h : EgInvariant e) {l : F32} (hl : f32Within l 0 1 = true) (st : EgState) (n : BitVec 32) :
    EgInvariant { e with level := l, state := st, segCount := n } := { h with level := hl }

/-- A step writes a level in [0, 1] in every state (R236). -/
theorem EgInvariant.egStep (h : EgInvariant e) (par : Params) : EgInvariant (egStep par e) := by
  cases hs : e.state with
  | idle =>
    rw [egStep_of_idle hs]
    exact h.withLevel f32Within_plusZero_unit _ _
  | attack =>
    rcases le_or_gt (segLen par e.attack) (segAdvance e) with hend | hcount
    · rw [egStep_attack_end hs hend]
      exact { h with level := h.peak, segStart := h.peak }
    · rw [egStep_attack_count hs hcount]
      exact h.withLevel (linePoint_within (level_mem h.segStart) (level_mem h.peak) hcount) _ _
  | decay =>
    rcases le_or_gt (segLen par e.decay) (segAdvance e) with hend | hcount
    · rw [egStep_decay_end hs hend]
      exact h.withLevel h.target_within _ _
    · rw [egStep_decay_count hs hcount]
      exact h.withLevel (linePoint_within (level_mem h.segStart) h.target_mem hcount) _ _
  | sustain =>
    rw [egStep_of_sustain hs]
    exact h.withLevel h.target_within _ _
  | release =>
    rcases le_or_gt (segLen par e.release) (segAdvance e) with hend | hcount
    · rw [egStep_release_end hs hend]
      exact h.withLevel f32Within_plusZero_unit _ _
    · rw [egStep_release_count hs hcount]
      exact h.withLevel (h.release_within hcount) _ _

theorem EgInvariant.egNoteOn (h : EgInvariant e) {v : F32} (hv : f32Within v 0 1 = true) :
    EgInvariant (egNoteOn e v) := { h with peak := hv, segStart := h.level }

theorem EgInvariant.egNoteOff (h : EgInvariant e) : EgInvariant (egNoteOff e) := { h with segStart := h.level }

/-- Every write keeps the fields of an envelope generator legal. -/
theorem EgWrite.keeps_invariant {x : Eg} (h : EgInvariant e) (hwrite : EgWrite par e x) : EgInvariant x := by
  cases hwrite with
  | attack ht => exact { h with attack := ht }
  | decay ht => exact { h with decay := ht }
  | sustain hl => exact { h with sustain := hl }
  | release ht => exact { h with release := ht }
  | noteOff => exact h.egNoteOff
  | advance => exact h.egStep par

end Envelope

section Filter
variable {par : Params} {f : Vcf}

theorem VcfInvariant.vcfStep (h : VcfInvariant f) {x : F32} (hx : f32Within x (-1) 1 = true) (l e : F32) :
    VcfInvariant (vcfStep par f x l e) :=
  have hout := f32Within_iff_finiteWith.mpr (vcfStep_out_mem par f x l e)
  { h with x1 := hx, x2 := h.x1, y1 := hout, y2 := h.y1, out := hout }

theorem VcfWrite.keeps_invariant {x : Vcf} (h : VcfInvariant f) (hwrite : VcfWrite f x) : VcfInvariant x := by
  cases hwrite with
  | cutoff hw => exact { h with cutoff := hw }
  | resonance hw => exact { h with resonance := hw }
  | modvol hw => exact { h with modvol := hw }

end Filter

section VoiceFields
variable {par : Params} {V : Voice}

theorem VoiceInvariant.setOsc (h : VoiceInvariant par V) (o : OscId) {x : Osc} (hx : OscInvariant par x) :
    VoiceInvariant par (V.setOsc o x) := by
  refine ⟨fun o' => ?_, fun e => ?_, ?_, ?_, ?_, ?_, ?_⟩
  · by_cases ho : o = o'
    · subst ho
      rwa [Voice.osc_setOsc_same]
    · rw [Voice.osc_setOsc_other V x ho]
      exact h.osc o'
  · have heg : (V.setOsc o x).eg e = V.eg e := by cases e <;> simp [Voice.eg]
    exact heg ▸ h.eg e
  · simpa using h.vcf
  · simpa using h.vcaModvol
  · simpa using h.vcaOut
  · simpa using h.mixOut
  · simpa using h.key

theorem VoiceInvariant.setEg (h : VoiceInvariant par V) (e : EgId) {x : Eg} (hx : EgInvariant x) :
    VoiceInvariant par (V.setEg e x) := by
  refine ⟨fun o => ?_, fun e' => ?_, ?_, ?_, ?_, ?_, ?_⟩
  · have hosc : (V.setEg e x).osc o = V.osc o := by cases o <;> simp [Voice.osc]
    exact hosc ▸ h.osc o
  · by_cases he : e = e'
    · subst he
      rwa [Voice.eg_setEg_same]
    · rw [Voice.eg_setEg_other V x he]
      exact h.eg e'
  · simpa using h.vcf
  · simpa using h.vcaModvol
  · simpa using h.vcaOut
  · simpa using h.mixOut
  · simpa using h.key

/-- New values of the units that stand once in a voice; they stay variables here, so nothing evaluates them. -/
theorem VoiceInvariant.withUnits (h : VoiceInvariant par V) {f : Vcf} {a : Vca} {m : Mix} {k : BitVec 8}
    (hf : VcfInvariant f) (hmodvol : f32Within a.modvol 0 1 = true) (ha : f32Within a.out (-1) 1 = true)
    (hm : f32Within m.out (-1) 1 = true) (hk : k.toNat ≤ 127) :
    VoiceInvariant par { V with vcf := f, vca := a, mix := m, key := k } where
  osc
    | .vco1 => h.osc .vco1
    | .vco2 => h.osc .vco2
    | .lfoVco => h.osc .lfoVco
    | .lfoVcf => h.osc .lfoVcf
    | .lfoVca => h.osc .lfoVca
  eg
    | .vcf => h.eg .vcf
    | .vca => h.eg .vca
  vcf := hf
  vcaModvol := hmodvol
  vcaOut := ha
  mixOut := hm
  key := hk

theorem VoiceInvariant.setVcf (h : VoiceInvariant par V) {x : Vcf} (hx : VcfInvariant x) :
    VoiceInvariant par { V with vcf := x } := h.withUnits hx h.vcaModvol h.vcaOut h.mixOut h.key

theorem VoiceInvariant.setVca (h : VoiceInvariant par V) {m w : F32} (hmodvol : f32Within m 0 1 = true)
    (hout : f32Within w (-1) 1 = true) : VoiceInvariant par { V with vca := { V.vca with modvol := m, out := w } } :=
  h.withUnits h.vcf hmodvol hout h.mixOut h.key

theorem VoiceInvariant.setMix (h : VoiceInvariant par V) {w : F32} (hout : f32Within w (-1) 1 = true) :
    VoiceInvariant par { V with mix := { V.mix with out := w } } := h.withUnits h.vcf h.vcaModvol h.vcaOut hout h.key

theorem VoiceInvariant.setKey (h : VoiceInvariant par V) {k : BitVec 8} (hk : k.toNat ≤ 127) :
    VoiceInvariant par { V with key := k } := h.withUnits h.vcf h.vcaModvol h.vcaOut h.mixOut hk

theorem VoiceInvariant.stepMix (h : VoiceInvariant par V) : VoiceInvariant par (stepMix V) :=
  h.setMix (f32Within_iff_finiteWith.mpr (mixStep_out_mem (m := V.mix)
    (f32Within_iff_finiteWith.mp (h.osc .vco1).out) (f32Within_iff_finiteWith.mp (h.osc .vco2).out)))

theorem VoiceInvariant.stepVcf (h : VoiceInvariant par V) : VoiceInvariant par (stepVcf par V) :=
  h.setVcf (h.vcf.vcfStep h.mixOut _ _)

/-- The amplifier does not leave the range of the filter's output (R275). -/
theorem VoiceInvariant.stepVca (h : VoiceInvariant par V) : VoiceInvariant par (stepVca V) := by
  obtain ⟨hfin, hlow, hhigh⟩ := f32Within_iff.mp h.vcf.out
  obtain ⟨hgain0, hgain1⟩ := vcaGain_mem (f32Within_iff_finiteWith.mp (h.eg .vca).level)
    (f32Within_iff_finiteWith.mp (h.osc .lfoVca).out) (f32Within_iff_finiteWith.mp h.vcaModvol)
  obtain ⟨q, hq, hle⟩ := vcaStep_out_abs_le hfin hgain0 hgain1
  have hbound : |q| ≤ 1 := hle.trans (abs_le.mpr ⟨hlow, hhigh⟩)
  exact h.setVca h.vcaModvol (f32Within_iff_finiteWith.mpr ⟨q, hq, abs_le.mp hbound⟩)

/-- The ten steps of the graph, one after the other (R202). -/
theorem VoiceInvariant.voiceStep (h : VoiceInvariant par V) (hsine : sineTableLegal par.sineTable = true) :
    VoiceInvariant par (voiceStep par V) := by
  have hosc {V : Voice} (h : VoiceInvariant par V) (o : OscId) (m : Option F32) :
      VoiceInvariant par (V.setOsc o (oscStep par (V.osc o) m)) := h.setOsc o ((h.osc o).oscStep hsine m)
  have heg {V : Voice} (h : VoiceInvariant par V) (e : EgId) : VoiceInvariant par (V.setEg e (egStep par (V.eg e))) :=
    h.setEg e ((h.eg e).egStep par)
  have h1 : VoiceInvariant par (stepLfoVco par V) := hosc h .lfoVco none
  have h2 : VoiceInvariant par (stepVco1 par _) := hosc h1 .vco1 (some _)
  have h3 : VoiceInvariant par (stepVco2 par _) := hosc h2 .vco2 (some _)
  have h4 := h3.stepMix
  have h5 : VoiceInvariant par (stepLfoVcf par _) := hosc h4 .lfoVcf none
  have h6 : VoiceInvariant par (stepEgVcf par _) := heg h5 .vcf
  have h7 := h6.stepVcf
  have h8 : VoiceInvariant par (stepLfoVca par _) := hosc h7 .lfoVca none
  have h9 : VoiceInvariant par (stepEgVca par _) := heg h8 .vca
  exact h9.stepVca

/-- Every write keeps the fields of a voice legal. -/
theorem VoiceWrite.keeps_invariant {W : Voice} {starts : Bool} (hp : paramsLegal par = true)
    (h : VoiceInvariant par V) (hwrite : VoiceWrite par starts V W) : VoiceInvariant par W := by
  obtain ⟨-, -, hsine, hnote⟩ := paramsLegal_cases hp
  cases hwrite with
  | osc o hx => exact h.setOsc o (hx.keeps_invariant hp (h.osc o))
  | eg e hx => exact h.setEg e (hx.keeps_invariant (h.eg e))
  | egNoteOn e _ hv => exact h.setEg e ((h.eg e).egNoteOn hv)
  | vcf hx => exact h.setVcf (hx.keeps_invariant h.vcf)
  | vcfAdvance => exact h.stepVcf
  | vcaModVolume hw => exact h.setVca hw h.vcaOut
  | vcaAdvance => exact h.stepVca
  | mixAdvance => exact h.stepMix
  | @noteOn key vel _ hkey hlow hhigh =>
    obtain ⟨q, hq, hpos, hle⟩ := velLevel_mem hlow hhigh
    have hlevel : f32Within (velLevel vel.toNat) 0 1 = true := f32Within_iff_finiteWith.mpr ⟨q, hq, hpos.le, hle⟩
    have h1 := (h.setOsc .vco1 ((h.osc .vco1).setPitch hnote key.toNat)).setOsc .vco2
      ((h.osc .vco2).setPitch hnote key.toNat)
    have h2 := (h1.setEg .vcf ((h.eg .vcf).egNoteOn hlevel)).setEg .vca ((h.eg .vca).egNoteOn hlevel)
    exact h2.setKey hkey
  | noteOff => exact (h.setEg .vcf (h.eg .vcf).egNoteOff).setEg .vca (h.eg .vca).egNoteOff
  | advance => exact h.voiceStep hsine

end VoiceFields

end Sys2Proof.Machine
end

section
/-! PROOFS. The state after reset, the invariant that it satisfies, and that every step keeps it. -/

namespace Sys2Proof.Machine

theorem resetVoices_getElem? (p : Params) {n v : Nat} (hv : v < n) : (resetVoices p n)[v]? = some (resetVoice p v) := by
  rw [resetVoices, List.getElem?_map, List.getElem?_range hv]
  rfl

theorem resetDecoders_getElem? {m d : Nat} (hd : d < m) : (resetDecoders m)[d]? = some resetDecoder :=
  List.getElem?_replicate_of_lt hd

@[simp] theorem resetVoices_length (p : Params) (n : Nat) : (resetVoices p n).length = n := by simp [resetVoices]

@[simp] theorem resetDecoders_length (m : Nat) : (resetDecoders m).length = m := List.length_replicate

/-- Settles O7: each voice and each decoder of the reset state is its reset value, which is the table of R361. -/
theorem resetState : Obligations.ResetState := by
  unfold Obligations.ResetState
  intro p n m v d hv hd
  exact ⟨resetVoices_length p n, resetDecoders_length m, resetVoices_getElem? p hv, rfl, rfl, resetDecoders_getElem? hd⟩

/-- EFF after reset is BASE, because EXP2 of zero is one (R361). -/
theorem effOf_reset {p : Params} (hexp : exp2AtZero p = true) : effOf p hz440 plusZero 0#32 = hz440 := by
  have hbase : FiniteWith hz440 fun b => 0 < b := finiteWith_iff.mpr (by decide +kernel)
  have hdetune : FiniteWith plusZero fun d => d = 0 := finiteWith_iff.mpr (by decide +kernel)
  exact effOf_of_detune_octave_zero hexp hbase hdetune

theorem noiseSeedReset_ne_zero {p : Params} (hseeds : seedsLegal p = true) {v u : Nat} (hv : v < 256) (hu : u < 5) :
    noiseSeedReset p v u ≠ 0#32 := by
  simp only [seedsLegal, List.all_eq_true, List.mem_range, bne_iff_ne] at hseeds
  exact hseeds v hv u hu

theorem unitCode_osc_lt (o : OscId) : (unitCode (.osc o)).toNat < 5 := by cases o <;> decide

theorem f32Within_plusZero_signed : f32Within plusZero (-1) 1 = true := by decide +kernel

theorem resetOsc_invariant {p : Params} (hp : paramsLegal p = true) {v : Nat} (hv : v < 256) (o : OscId) :
    OscInvariant p (resetOsc p v o) := by
  obtain ⟨hseeds, hexp, -, -⟩ := paramsLegal_cases hp
  have hbase : f32FinitePositive hz440 = true := by decide +kernel
  have hdetune : f32Within plusZero (-1 / 2) (1 / 2) = true := by decide +kernel
  have hoctave : -3 ≤ (0#32).toInt ∧ (0#32).toInt ≤ 2 := by decide
  have hphase : (0#32).toNat < 2 ^ 32 - 1 := by decide
  exact ⟨hbase, (effOf_reset hexp).symm, hdetune, hoctave.1, hoctave.2, f32Within_plusZero_unit, hphase,
    f32Within_plusZero_signed, noiseSeedReset_ne_zero hseeds hv (unitCode_osc_lt o)⟩

theorem resetEg_invariant : EgInvariant resetEg := egOk_iff.mp (by decide +kernel)

theorem resetVcf_invariant : VcfInvariant resetVcf := vcfOk_iff.mp (by decide +kernel)

theorem resetVoice_invariant {p : Params} (hp : paramsLegal p = true) {v : Nat} (hv : v < 256) :
    VoiceInvariant p (resetVoice p v) where
  osc
    | .vco1 => resetOsc_invariant hp hv .vco1
    | .vco2 => resetOsc_invariant hp hv .vco2
    | .lfoVco => resetOsc_invariant hp hv .lfoVco
    | .lfoVcf => resetOsc_invariant hp hv .lfoVcf
    | .lfoVca => resetOsc_invariant hp hv .lfoVca
  eg
    | .vcf => resetEg_invariant
    | .vca => resetEg_invariant
  vcf := resetVcf_invariant
  vcaModvol := f32Within_plusZero_unit
  vcaOut := f32Within_plusZero_signed
  mixOut := f32Within_plusZero_signed
  key := Nat.zero_le _

theorem resetVoices_invariant {p : Params} (hp : paramsLegal p = true) {n : Nat} (hn : n ≤ 256) :
    ∀ V ∈ resetVoices p n, VoiceInvariant p V := by
  intro V hV
  obtain ⟨v, hv, rfl⟩ := List.mem_map.mp hV
  exact resetVoice_invariant hp ((List.mem_range.mp hv).trans_le hn)

/-- The invariant of the block as propositions. -/
theorem stateOk_iff {s : State} :
    stateOk s = true ↔ paramsLegal s.params = true ∧ (1 ≤ s.voices.length ∧ s.voices.length ≤ 256) ∧
      (1 ≤ s.decoders.length ∧ s.decoders.length ≤ 256) ∧ ∀ V ∈ s.voices, VoiceInvariant s.params V := by
  simp only [stateOk, Bool.and_eq_true, decide_eq_true_eq, List.all_eq_true, voiceOk_iff]
  tauto

/-- Settles O12: each reset voice is within its legal values for legal parameters. -/
theorem resetInvariantEveryBlock : Obligations.ResetInvariantEveryBlock := by
  unfold Obligations.ResetInvariantEveryBlock
  intro p n m hp hn1 hn256 hm1 hm256
  have hvoices : (State.resetWith p n m).voices.length = n := resetVoices_length p n
  have hdecoders : (State.resetWith p n m).decoders.length = m := resetDecoders_length m
  refine stateOk_iff.mpr ⟨hp, ?_, ?_, resetVoices_invariant hp hn256⟩
  · rw [hvoices]
    exact ⟨hn1, hn256⟩
  · rw [hdecoders]
    exact ⟨hm1, hm256⟩

/-- Settles O11: the fixed reset state is that of a legal block. -/
theorem resetInvariant : Obligations.ResetInvariant := by
  unfold Obligations.ResetInvariant
  have hp : paramsLegal defaultParams = true := paramsLegal_default (by decide) (by decide)
  exact resetInvariantEveryBlock defaultParams 1 1 hp (by decide) (by decide) (by decide) (by decide)

/-- A write to one voice keeps every voice legal. -/
theorem WritesVoice.keeps_invariant {s t : State} {k : Nat} {starts : Bool} (hp : paramsLegal s.params = true)
    (hvoices : ∀ V ∈ s.voices, VoiceInvariant s.params V) (h : WritesVoice s t k starts) :
    ∀ V ∈ t.voices, VoiceInvariant s.params V := by
  intro X hX
  obtain hsame | ⟨V, W, hV, hwrite, hset⟩ := h
  · exact hvoices X (hsame ▸ hX)
  · rcases List.mem_or_eq_of_mem_set (hset ▸ hX) with hmem | rfl
    · exact hvoices X hmem
    · exact hwrite.keeps_invariant hp (hvoices V (List.mem_of_getElem? hV))

/-- Settles O13: a step leaves the voices, resets them, or writes one of them, and each keeps the legal values. -/
theorem stepKeepsInvariant : Obligations.StepKeepsInvariant := by
  unfold Obligations.StepKeepsInvariant
  intro s t hok hstep
  obtain ⟨hp, hvoiceCount, hdecoderCount, hvoices⟩ := stateOk_iff.mp hok
  obtain ⟨hparams, hvoiceLength, hdecoderLength⟩ := stepKeepsParameters s t hstep
  have hkept : ∀ V ∈ t.voices, VoiceInvariant s.params V := by
    obtain hsame | ⟨rest, -, hreset⟩ | ⟨p, w, rest, i, -, -, hwrites⟩ := step_writes hstep
    · rwa [hsame]
    · rw [hreset]
      exact resetVoices_invariant hp hvoiceCount.2
    · exact hwrites.keeps_invariant hp hvoices
  rw [stateOk_iff, hparams, hvoiceLength, hdecoderLength]
  exact ⟨hp, hvoiceCount, hdecoderCount, hkept⟩

end Sys2Proof.Machine
end

section
/-! PROOFS. Programs for one voice: the advance of the whole graph, unit by unit (R371), and SAMPLE (R123). -/

namespace Sys2Proof.Machine

section
variable {c : CommandFields} {s : State} {V : Voice}

theorem exec_oscAdvance {o : OscId} (h : VoiceReached (.osc o) c s V) (hr : reservedBitsSet .none c = false) :
    exec (.oscAdvance c) s =
      .next (s.voiceAnswered c (V.setOsc o (oscStep s.params (V.osc o) (modulatorOf V o))) .ok 0#32) := by
  have hselect : selectOsc (.osc o) = some o := rfl
  simp only [exec, execOscAdvance]
  exact voiceCommand_ok h hselect hr rfl

theorem exec_egAdvance {e : EgId} (h : VoiceReached (.eg e) c s V) (hr : reservedBitsSet .none c = false) :
    exec (.egAdvance c) s = .next (s.voiceAnswered c (V.setEg e (egStep s.params (V.eg e))) .ok 0#32) := by
  simp only [exec, execEgAdvance]
  exact egCommand_ok h hr rfl

theorem exec_mixAdvance (h : VoiceReached .mix c s V) (hr : reservedBitsSet .none c = false) :
    exec (.mixAdvance c) s = .next (s.voiceAnswered c (stepMix V) .ok 0#32) := by
  simp only [exec, execMixAdvance]
  exact voiceCommand_ok h selectMix_mix hr rfl

theorem exec_vcfAdvance (h : VoiceReached .vcf c s V) (hr : reservedBitsSet .none c = false) :
    exec (.vcfAdvance c) s = .next (s.voiceAnswered c (stepVcf s.params V) .ok 0#32) := by
  simp only [exec, execVcfAdvance]
  exact voiceCommand_ok h selectVcf_vcf hr rfl

theorem exec_vcaAdvance (h : VoiceReached .vca c s V) (hr : reservedBitsSet .none c = false) :
    exec (.vcaAdvance c) s = .next (s.voiceAnswered c (stepVca V) .ok 0#32) := by
  simp only [exec, execVcaAdvance]
  exact voiceCommand_ok h selectVca_vca hr rfl

end

section
variable (p : Params) (v : BitVec 8) (V : Voice)

theorem voiceRuns_oscAdvance (o : OscId) :
    VoiceRuns p v.toNat [.oscAdvance (fieldsFor v (.osc o) 0#32)] V
      (V.setOsc o (oscStep p (V.osc o) (modulatorOf V o))) [⟨.ok, 0#32⟩] :=
  voiceRuns_singleton (by simp) fun _ hp h => hp ▸ exec_oscAdvance h (reservedBitsSet_fieldsFor v _)

theorem voiceRuns_egAdvance (e : EgId) :
    VoiceRuns p v.toNat [.egAdvance (fieldsFor v (.eg e) 0#32)] V (V.setEg e (egStep p (V.eg e))) [⟨.ok, 0#32⟩] :=
  voiceRuns_singleton (by simp) fun _ hp h => hp ▸ exec_egAdvance h (reservedBitsSet_fieldsFor v _)

theorem voiceRuns_mixAdvance :
    VoiceRuns p v.toNat [.mixAdvance (fieldsFor v .mix 0#32)] V (stepMix V) [⟨.ok, 0#32⟩] :=
  voiceRuns_singleton (by simp) fun _ _ h => exec_mixAdvance h (reservedBitsSet_fieldsFor v _)

theorem voiceRuns_vcfAdvance :
    VoiceRuns p v.toNat [.vcfAdvance (fieldsFor v .vcf 0#32)] V (stepVcf p V) [⟨.ok, 0#32⟩] :=
  voiceRuns_singleton (by simp) fun _ hp h => hp ▸ exec_vcfAdvance h (reservedBitsSet_fieldsFor v _)

theorem voiceRuns_vcaAdvance :
    VoiceRuns p v.toNat [.vcaAdvance (fieldsFor v .vca 0#32)] V (stepVca V) [⟨.ok, 0#32⟩] :=
  voiceRuns_singleton (by simp) fun _ _ h => exec_vcaAdvance h (reservedBitsSet_fieldsFor v _)

theorem voiceRuns_voiceAdvance :
    VoiceRuns p v.toNat [.voiceAdvance (fieldsFor v .voice 0#32)] V (voiceStep p V) [⟨.ok, 0#32⟩] :=
  voiceRuns_singleton (by simp) fun _ hp h => hp ▸ exec_voiceAdvance h (reservedBitsSet_fieldsFor v _)

theorem voiceRuns_voiceRead :
    VoiceRuns p v.toNat [.voiceRead (fieldsFor v .voice 0#32)] V V [⟨.ok, V.vca.out⟩] :=
  voiceRuns_singleton (by simp) fun _ _ h => exec_voiceRead h (reservedBitsSet_fieldsFor v _)

end

/-- The ten unit advances in the graph order, as a program. -/
def unitAdvances (v : BitVec 8) : List Instr :=
  [.oscAdvance (fieldsFor v (.osc .lfoVco) 0#32), .oscAdvance (fieldsFor v (.osc .vco1) 0#32),
   .oscAdvance (fieldsFor v (.osc .vco2) 0#32), .mixAdvance (fieldsFor v .mix 0#32),
   .oscAdvance (fieldsFor v (.osc .lfoVcf) 0#32), .egAdvance (fieldsFor v (.eg .vcf) 0#32),
   .vcfAdvance (fieldsFor v .vcf 0#32), .oscAdvance (fieldsFor v (.osc .lfoVca) 0#32),
   .egAdvance (fieldsFor v (.eg .vca) 0#32), .vcaAdvance (fieldsFor v .vca 0#32)]

/-- Each unit advance is its step of the graph, so the ten are `voiceStep` (R202). -/
theorem voiceRuns_unitAdvances (p : Params) (v : BitVec 8) (V : Voice) :
    VoiceRuns p v.toNat (unitAdvances v) V (voiceStep p V) (List.replicate 10 ⟨.ok, 0#32⟩) := by
  have hlfoVco V : VoiceRuns p v.toNat [_] V (stepLfoVco p V) _ := voiceRuns_oscAdvance p v V .lfoVco
  have hvco1 V : VoiceRuns p v.toNat [_] V (stepVco1 p V) _ := voiceRuns_oscAdvance p v V .vco1
  have hvco2 V : VoiceRuns p v.toNat [_] V (stepVco2 p V) _ := voiceRuns_oscAdvance p v V .vco2
  have hlfoVcf V : VoiceRuns p v.toNat [_] V (stepLfoVcf p V) _ := voiceRuns_oscAdvance p v V .lfoVcf
  have hegVcf V : VoiceRuns p v.toNat [_] V (stepEgVcf p V) _ := voiceRuns_egAdvance p v V .vcf
  have hlfoVca V : VoiceRuns p v.toNat [_] V (stepLfoVca p V) _ := voiceRuns_oscAdvance p v V .lfoVca
  have hegVca V : VoiceRuns p v.toNat [_] V (stepEgVca p V) _ := voiceRuns_egAdvance p v V .vca
  exact (hlfoVco _).append <| (hvco1 _).append <| (hvco2 _).append <| (voiceRuns_mixAdvance p v _).append <|
    (hlfoVcf _).append <| (hegVcf _).append <| (voiceRuns_vcfAdvance p v _).append <| (hlfoVca _).append <|
    (hegVca _).append <| voiceRuns_vcaAdvance p v _

/-- Settles O37: both programs leave `voiceStep` of the voice. -/
theorem voiceAdvanceIsUnitAdvances : Obligations.VoiceAdvanceIsUnitAdvances := by
  unfold Obligations.VoiceAdvanceIsUnitAdvances
  intro s v hv units whole
  have hV : s.voices[v.toNat]? = some s.voices[v.toNat] := List.getElem?_eq_getElem hv
  obtain ⟨q, hunits⟩ := (voiceRuns_unitAdvances s.params v _).run s hV
  obtain ⟨q', hwhole⟩ := (voiceRuns_voiceAdvance s.params v _).run s hV
  exact ⟨_, _, hunits, hwhole, rfl, rfl, rfl, rfl⟩

/-- Settles O41: the advance leaves the new voice, and the read answers with its amplifier output. -/
theorem sampleReturnsNewOutput : Obligations.SampleReturnsNewOutput := by
  unfold Obligations.SampleReturnsNewOutput
  intro s v V hV
  obtain ⟨q, hrun⟩ := ((voiceRuns_voiceAdvance s.params v V).append (voiceRuns_voiceRead s.params v _)).run s hV
  exact ⟨_, hrun, rfl, rfl⟩

end Sys2Proof.Machine
end

section
/-! PROOFS. A silent voice stays silent until a note-on of its amplifier envelope (R230, R235, R272). -/

namespace Sys2Proof.Machine

/-- An envelope generator at rest at +0.0: Idle, or in a release from +0.0. -/
def EgSilent (e : Eg) : Prop :=
  (e.state = .idle ∨ (e.state = .release ∧ e.segStart = plusZero)) ∧ e.level = plusZero

theorem voiceSilent_iff {V : Voice} : VoiceSilent V ↔ EgSilent V.egVca ∧ V.vca.out = plusZero := and_assoc.symm

section
variable {p : Params} {e : Eg} {V W : Voice}

theorem EgSilent.egNoteOff (h : EgSilent e) : EgSilent (egNoteOff e) :=
  let ⟨_, hlevel⟩ := h
  ⟨.inr ⟨rfl, hlevel⟩, hlevel⟩

/-- A release from +0.0 falls along the line at 0 (R235). -/
theorem EgSilent.egStep (h : EgSilent e) (p : Params) : EgSilent (egStep p e) := by
  obtain ⟨hidle | ⟨hrelease, hstart⟩, hlevel⟩ := h
  · rw [egStep_of_idle hidle]
    exact ⟨.inl hidle, rfl⟩
  · rcases le_or_gt (segLen p e.release) (segAdvance e) with hend | hcount
    · rw [egStep_release_end hrelease hend]
      exact ⟨.inl rfl, rfl⟩
    · have hzero : rnd32 (val e.segStart * (1 - (segAdvance e : Rat) / (segLen p e.release : Rat))) = plusZero := by
        rw [hstart, val_plusZero, zero_mul, rnd32_zero]
      rw [egStep_release_count hrelease hcount, hzero]
      exact ⟨.inr ⟨hrelease, hstart⟩, rfl⟩

theorem EgWrite.keeps_silent {x : Eg} (h : EgSilent e) (hwrite : EgWrite p e x) : EgSilent x := by
  cases hwrite with
  | attack | decay | sustain | release => exact ⟨h.1, h.2⟩
  | noteOff => exact h.egNoteOff
  | advance => exact h.egStep p

/-- At level +0.0 the amplifier writes +0.0 (R272). -/
theorem stepVca_out_of_level_zero (h : V.egVca.level = plusZero) : (stepVca V).vca.out = plusZero := by
  have hout : (stepVca V).vca.out = rnd32 (val V.vcf.out * (val V.egVca.level * lfoGain V.vca.modvol V.lfoVca.out)) :=
    vcaStep_out
  rw [hout, h, val_plusZero, zero_mul, mul_zero, rnd32_zero]

/-- A voice whose amplifier envelope is silent after the step has a silent output (R202). -/
theorem voiceStep_out_of_level_zero (h : (egStep p V.egVca).level = plusZero) :
    (voiceStep p V).vca.out = plusZero := by
  rw [voiceStep]
  refine stepVca_out_of_level_zero ?_
  rw [stepEgVca]
  simpa using h

theorem VoiceSilent.stepVca (h : VoiceSilent V) : VoiceSilent (stepVca V) := by
  obtain ⟨heg, -⟩ := voiceSilent_iff.mp h
  refine voiceSilent_iff.mpr ⟨?_, stepVca_out_of_level_zero heg.2⟩
  rwa [stepVca_egVca]

theorem VoiceSilent.voiceStep (h : VoiceSilent V) (p : Params) : VoiceSilent (voiceStep p V) := by
  obtain ⟨heg, -⟩ := voiceSilent_iff.mp h
  have hnext := heg.egStep p
  refine voiceSilent_iff.mpr ⟨?_, voiceStep_out_of_level_zero hnext.2⟩
  rwa [voiceStep_egVca]

/-- The amplifier and its envelope decide whether a voice is silent. -/
theorem VoiceSilent.congr (h : VoiceSilent V) (heg : W.egVca = V.egVca) (hout : W.vca.out = V.vca.out) :
    VoiceSilent W := by
  rw [voiceSilent_iff, heg, hout]
  exact voiceSilent_iff.mp h

/-- Nothing but a note-on of the amplifier envelope ends the silence. -/
theorem VoiceWrite.keeps_silent (h : VoiceSilent V) (hwrite : VoiceWrite p false V W) : VoiceSilent W := by
  obtain ⟨heg, hout⟩ := voiceSilent_iff.mp h
  cases hwrite with
  | osc o hx => exact h.congr (by simp) (by simp)
  | eg e hx =>
    cases e with
    | vcf => exact h.congr rfl rfl
    | vca => exact voiceSilent_iff.mpr ⟨hx.keeps_silent heg, hout⟩
  | egNoteOn e hstarts =>
    cases e with
    | vcf => exact h.congr rfl rfl
    | vca => exact absurd (hstarts rfl) Bool.false_ne_true
  | vcf | vcaModVolume => exact h.congr rfl rfl
  | vcfAdvance | mixAdvance => exact h.congr (by simp) (by simp)
  | vcaAdvance => exact h.stepVca
  | noteOn hstarts => exact absurd hstarts Bool.false_ne_true
  | noteOff => exact voiceSilent_iff.mpr ⟨heg.egNoteOff, hout⟩
  | advance => exact h.voiceStep p

end

theorem resetVoice_silent (p : Params) (v : Nat) : VoiceSilent (resetVoice p v) := ⟨.inl rfl, rfl, rfl⟩

/-- A write to one voice keeps voice v silent unless the command can start it. -/
theorem WritesVoice.keeps_silent {s t : State} {v k : BitVec 8} {starts : Bool} {V : Voice}
    (hV : s.voices[v.toNat]? = some V) (hsilent : VoiceSilent V) (hstarts : k = v → starts = false)
    (h : WritesVoice s t k.toNat starts) : ∃ W, t.voices[v.toNat]? = some W ∧ VoiceSilent W := by
  obtain hsame | ⟨V', W, hV', hwrite, hset⟩ := h
  · exact ⟨V, hsame ▸ hV, hsilent⟩
  · by_cases hk : k = v
    · obtain rfl := hstarts hk
      subst hk
      obtain rfl := Option.some.inj (hV'.symm.trans hV)
      have hlength : k.toNat < s.voices.length := (List.getElem?_eq_some_iff.mp hV).1
      exact ⟨W, hset ▸ List.getElem?_set_self hlength, hwrite.keeps_silent hsilent⟩
    · have hne : k.toNat ≠ v.toNat := fun heq => hk (BitVec.eq_of_toNat_eq heq)
      exact ⟨V, by rw [hset, List.getElem?_set_ne hne, hV], hsilent⟩

/-- One step, whatever it takes but a command that can start the voice. -/
theorem step_keeps_silent {s t : State} {v : BitVec 8} {V : Voice} (hV : s.voices[v.toNat]? = some V)
    (hsilent : VoiceSilent V) (hinput : ∀ x rest, s.inputs = x :: rest → inputStarts v x = false)
    (hstep : step s = .next t) : ∃ W, t.voices[v.toNat]? = some W ∧ VoiceSilent W := by
  obtain hsame | ⟨rest, -, hreset⟩ | ⟨p, w, rest, i, hin, hdecode, hwrites⟩ := step_writes hstep
  · exact ⟨V, hsame ▸ hV, hsilent⟩
  · have hlength : v.toNat < s.voices.length := (List.getElem?_eq_some_iff.mp hV).1
    exact ⟨_, hreset ▸ resetVoices_getElem? s.params hlength, resetVoice_silent _ _⟩
  · have hnot : startsVoice v i = false := by simpa [inputStarts, hdecode] using hinput _ rest hin
    exact hwrites.keeps_silent hV hsilent fun hk => hk ▸ hnot

/-- A step takes the interaction it carries out. -/
theorem step_takes_input {s : State} {x : HostInput} {rest : List HostInput} (hin : s.inputs = x :: rest) :
    ∃ t, step s = .next t ∧ t.inputs = rest := by
  cases x with
  | reset => exact ⟨_, step_reset hin, rfl⟩
  | command p w =>
    obtain ⟨t, _, hstep, hinputs, -⟩ := commandAlwaysAnswers s p w rest hin
    exact ⟨t, hstep, hinputs⟩

theorem run_keeps_silent {v : BitVec 8} {l : List HostInput} (hl : ∀ x ∈ l, inputStarts v x = false) {s : State}
    {V : Voice} (hin : s.inputs = l) (hV : s.voices[v.toNat]? = some V) (hsilent : VoiceSilent V) :
    ∃ t W, core.run l.length s = .next t ∧ t.voices[v.toNat]? = some W ∧ VoiceSilent W := by
  induction l generalizing s V with
  | nil => exact ⟨s, V, rfl, hV, hsilent⟩
  | cons x rest ih =>
    obtain ⟨t, hstep, hrest⟩ := step_takes_input hin
    have hx : ∀ y rest', s.inputs = y :: rest' → inputStarts v y = false := by
      intro y rest' hy
      obtain ⟨rfl, -⟩ := List.cons.inj (hin.symm.trans hy)
      exact hl x List.mem_cons_self
    obtain ⟨W, hW, hWsilent⟩ := step_keeps_silent hV hsilent hx hstep
    rw [List.length_cons, core_run_succ hstep]
    exact ih (fun y hy => hl y (List.mem_cons_of_mem x hy)) hrest hW hWsilent

/-- An Idle amplifier envelope stays Idle and keeps the output of the voice at +0.0. -/
theorem voiceStep_iterate_out (p : Params) {V : Voice} (hidle : V.egVca.state = .idle) (hout : V.vca.out = plusZero)
    (k : Nat) : ((voiceStep p)^[k] V).vca.out = plusZero := by
  induction k generalizing V with
  | zero => exact hout
  | succ k ih =>
    have hlevel : (egStep p V.egVca).level = plusZero := by rw [egStep_of_idle hidle]
    have hnext : (voiceStep p V).egVca.state = .idle := by rw [voiceStep_egVca, egStep_idle_state hidle]
    exact ih hnext (voiceStep_out_of_level_zero hlevel)

/-- Settles O40: each write but a note-on keeps the silence, and an Idle envelope keeps the output at +0.0. -/
theorem silentUntilNoteOn : Obligations.SilentUntilNoteOn := by
  unfold Obligations.SilentUntilNoteOn
  refine ⟨resetVoice_silent, fun s t v V => step_keeps_silent, fun s v V l hV hsilent hl => ?run,
    fun c s V h hr hsilent => ?read, fun s v V k hV hidle hout => ?advances⟩
  case run => exact run_keeps_silent (s := { s with inputs := l }) hl rfl hV hsilent
  case read =>
    obtain ⟨-, hout⟩ := voiceSilent_iff.mp hsilent
    have hread := exec_voiceRead h hr
    rwa [hout] at hread
  case advances =>
    intro program
    have hread := voiceRuns_voiceRead s.params v ((voiceStep s.params)^[k] V)
    rw [voiceStep_iterate_out s.params hidle hout k] at hread
    obtain ⟨q, hrun⟩ := ((VoiceRuns.replicate (voiceRuns_voiceAdvance s.params v) k V).append hread).run s hV
    have hlength : program.length = k + 1 := by simp [program]
    exact ⟨_, hlength ▸ hrun, (List.append_assoc _ _ _).symm⟩

end Sys2Proof.Machine
end

section
/-! PROOFS. The bytes of a message issued to one decoder (R293, R299, R304): a run is a fold of `decStep`, and the fold over
a whole message is its event. -/

namespace Sys2Proof.Machine

/-- The decoder after some bytes, and the responses to them. -/
def decBytes (D : Decoder) : List (BitVec 8) → Decoder × List Response
  | [] => (D, [])
  | b :: bs =>
    ((decBytes (decStep D b).1 bs).1, ⟨.ok, decData (decStep D b).2⟩ :: (decBytes (decStep D b).1 bs).2)

theorem decBytes_cons {D D' : Decoder} {b : BitVec 8} {ev : Option DecEvent} (h : decStep D b = (D', ev))
    (bs : List (BitVec 8)) :
    decBytes D (b :: bs) = ((decBytes D' bs).1, ⟨.ok, decData ev⟩ :: (decBytes D' bs).2) := by
  rw [decBytes, h]

/-- DEC_BYTE for one byte. -/
def decByteFor (k : BitVec 8) (b : BitVec 8) : Instr := .decByte (fieldsFor k .dec (b.setWidth 32))

theorem reservedBitsSet_byte (k b : BitVec 8) :
    reservedBitsSet .byte (fieldsFor k .dec (b.setWidth 32)) = false := by
  revert b
  simp only [reservedBitsSet, fieldsFor]
  decide

/-- One byte taken on CPORT steps its decoder and answers. -/
theorem step_decByteFor {s : State} {k b : BitVec 8} {D : Decoder} {rest : List HostInput}
    (hin : s.inputs = .command .cport (encode (decByteFor k b)) :: rest) (hD : s.decoders[k.toNat]? = some D) :
    step s = .next { s with
      decoders := s.decoders.set k.toNat (decStep D b).1, inputs := rest, port := .cport
      cportOut := s.cportOut ++ [⟨.ok, decData (decStep D b).2⟩] } := by
  have hreached : DecoderReached (fieldsFor k .dec (b.setWidth 32)) (s.accept .cport rest) D :=
    ⟨unitOfCode_unitCode .dec, rfl, hD⟩
  have hbyte : byteOperand (fieldsFor k .dec (b.setWidth 32)) = b := by
    rw [byteOperand_eq_setWidth]
    exact (BitVec.setWidth_setWidth_of_le b (by decide)).trans (BitVec.setWidth_eq b)
  rw [step_command hin, execWord, decode_encode]
  simp only [decByteFor, exec, execDecByte, hbyte]
  exact decoderCommand_ok hreached (reservedBitsSet_byte k b) rfl

/-- Bytes issued on CPORT all complete: the decoder and the responses are those of the fold, and nothing else changes but
the pending interactions and the port latch. -/
theorem run_decBytes {k : BitVec 8} (bytes : List (BitVec 8)) {s : State} {D : Decoder}
    (hD : s.decoders[k.toNat]? = some D) (hin : s.inputs = issueOn .cport (bytes.map (decByteFor k))) :
    ∃ q : Port, core.run bytes.length s = .next { s with
      decoders := s.decoders.set k.toNat (decBytes D bytes).1, inputs := [], port := q
      cportOut := s.cportOut ++ (decBytes D bytes).2 } := by
  induction bytes generalizing s D with
  | nil =>
    obtain ⟨hk, rfl⟩ := List.getElem?_eq_some_iff.mp hD
    have hempty : s.inputs = [] := hin
    refine ⟨s.port, ?_⟩
    rw [decBytes, List.set_getElem_self hk, ← hempty, List.append_nil]
    rfl
  | cons b bs ih =>
    have hk : k.toNat < s.decoders.length := (List.getElem?_eq_some_iff.mp hD).1
    obtain ⟨q, hrun⟩ := ih (D := (decStep D b).1) (s := { s with
      decoders := s.decoders.set k.toNat (decStep D b).1, inputs := issueOn .cport (bs.map (decByteFor k))
      port := .cport, cportOut := s.cportOut ++ [⟨.ok, decData (decStep D b).2⟩] }) (List.getElem?_set_self hk) rfl
    refine ⟨q, ?_⟩
    rw [List.length_cons, core_run_succ (step_decByteFor hin hD)]
    refine hrun.trans ?_
    rw [decBytes, List.set_set, List.append_assoc]
    rfl

section
variable {D : Decoder}

/-- 0x80 begins a message in every state; inside a message it is a framing error too (R294, R297). -/
theorem decStep_begin (D : Decoder) : decStep D 0x80#8 =
    ({ state := .readAddress, address := 0#7, value := 0#14
       frameErr := if D.state = .start then D.frameErr else D.frameErr + 1#32
       parityErr := D.parityErr, events := D.events }, none) := by
  by_cases hs : D.state = .start
  · rw [decStep_start hs rfl, if_pos hs]
    rfl
  · have hrejects : ¬decAccepts D.state 0x80#8 = true := by
      cases hstate : D.state with
      | start => exact absurd hstate hs
      | readAddress | readValue1 | readValue2 | readStop => decide
    rw [decStep_of_rejects hrejects, if_neg hs, decFramingError, if_pos rfl]
    rfl

/-- Seven bits as a data byte: bit 7 is clear (R295). -/
theorem dataByte_top (x : BitVec 7) : (x.setWidth 8).getLsbD 7 = false := by
  rw [BitVec.getLsbD_setWidth, BitVec.getLsbD_of_ge x 7 le_rfl, Bool.and_false]

theorem dataByte_address (a : BitVec 7) : (a.setWidth 8).setWidth 7 = a :=
  (BitVec.setWidth_setWidth_of_le a (by decide)).trans (BitVec.setWidth_eq a)

/-- The two data bytes of a value put together are the value (R299). -/
theorem dataBytes_value (v : BitVec 14) :
    ((v.extractLsb' 7 7).setWidth 8).setWidth 14 <<< 7 ||| ((v.extractLsb' 0 7).setWidth 8).setWidth 14 = v := by
  ext i hi
  rw [BitVec.getElem_or, BitVec.getElem_shiftLeft, BitVec.getElem_setWidth, BitVec.getElem_setWidth]
  rcases lt_or_ge i 7 with hlow | hhigh
  · have hbyte : i < 8 := by omega
    simp [hlow, hbyte, BitVec.getLsbD_eq_getElem hi]
  · have hsum : 7 + (i - 7) = i := by omega
    have hpart : i - 7 < 7 := by omega
    have hbyte : i - 7 < 8 := by omega
    simp [hpart, hbyte, hhigh.not_gt, hsum, BitVec.getLsbD_eq_getElem hi]

/-- The data bytes and the stop byte of a message with the right parity end it with its event (R299). -/
theorem decBytes_afterBegin (hs : D.state = .readAddress) {a : BitVec 7} {v : BitVec 14} {stop : BitVec 8}
    (hstop : stop &&& 0xC0#8 = 0xC0#8) (hparity : stop.getLsbD 0 = messageParity a v) :
    decBytes D [a.setWidth 8, (v.extractLsb' 7 7).setWidth 8, (v.extractLsb' 0 7).setWidth 8, stop] =
      ({ D with state := .start, address := a, value := v, events := D.events ++ [⟨a, v⟩] },
        List.replicate 3 ⟨.ok, 0#32⟩ ++ [⟨.ok, decData (some ⟨a, v⟩)⟩]) := by
  have haddress := decStep_readAddress hs (dataByte_top a)
  have hvalue1 := decStep_readValue1 (d := { D with address := a, state := .readValue1 }) rfl
    (dataByte_top (v.extractLsb' 7 7))
  have hvalue2 := decStep_readValue2 rfl (dataByte_top (v.extractLsb' 0 7))
    (d := { D with
      address := a, value := ((v.extractLsb' 7 7).setWidth 8).setWidth 14 <<< 7, state := .readValue2 })
  have hend : decStep { D with address := a, value := v, state := .readStop } stop =
      ({ D with state := .start, address := a, value := v, events := D.events ++ [⟨a, v⟩] }, some ⟨a, v⟩) :=
    (decStep_readStop rfl hstop).trans (if_pos hparity)
  rw [dataByte_address] at haddress
  rw [dataBytes_value] at hvalue2
  rw [decBytes_cons haddress, decBytes_cons hvalue1, decBytes_cons hvalue2, decBytes_cons hend]
  rfl

/-- A whole message is its event, whatever the decoder was in. -/
theorem decBytes_message (D : Decoder) {a : BitVec 7} {v : BitVec 14} {stop : BitVec 8}
    (hstop : stop &&& 0xC0#8 = 0xC0#8) (hparity : stop.getLsbD 0 = messageParity a v) :
    decBytes D [0x80#8, a.setWidth 8, (v.extractLsb' 7 7).setWidth 8, (v.extractLsb' 0 7).setWidth 8, stop] =
      ({ state := .start, address := a, value := v
         frameErr := if D.state = .start then D.frameErr else D.frameErr + 1#32
         parityErr := D.parityErr, events := D.events ++ [⟨a, v⟩] },
        List.replicate 4 ⟨.ok, 0#32⟩ ++ [⟨.ok, decData (some ⟨a, v⟩)⟩]) := by
  rw [decBytes_cons (decStep_begin D), decBytes_afterBegin rfl hstop hparity]
  rfl

end

/-- Settles O43: 0x80 begins the message from any state, and the four other bytes end it with its event. -/
theorem wholeMessageDecodes : Obligations.WholeMessageDecodes := by
  unfold Obligations.WholeMessageDecodes
  intro s k D a v stop hD hstop hparity bytes program
  obtain ⟨q, hrun⟩ := run_decBytes (s := { s with inputs := issueOn .cport program }) bytes hD rfl
  rw [decBytes_message D hstop hparity] at hrun
  exact ⟨_, hrun, rfl, rfl, (List.append_assoc _ _ _).symm⟩

end Sys2Proof.Machine
end
